-- ==== Sys2Proof/Word.lean ====
section
/-! DEFINITION. The words of the JT1204: bytes, epoch values, tick counts and saturating counts, and the
two fixed banks the part is built from (twelve channels, four profile slots). -/

namespace Sys2Proof

/-- One byte of the serial line or of a message (R131, R171). -/
abbrev Byte := BitVec 8

/-- An epoch value: base periods since the last reset, modulo 2^48 (R2). -/
abbrev Epoch := BitVec 48

/-- A count of ticks within a cycle (R6). -/
abbrev Ticks := BitVec 32

/-- A set of channels: channel n is a member when bit n − 1 is 1 (R172). -/
abbrev ChannelSet := BitVec 12

/-- A channel, 1 to 12, as its index 0 to 11 (0.5 Numbering). -/
abbrev Channel := Fin 12

/-- Twelve like things, one for each channel 1 to 12. -/
structure Twelve (α : Type) where
  c1 : α
  c2 : α
  c3 : α
  c4 : α
  c5 : α
  c6 : α
  c7 : α
  c8 : α
  c9 : α
  c10 : α
  c11 : α
  c12 : α
  deriving DecidableEq, Repr

/-- The member of channel `i`. -/
def Twelve.get {α : Type} (t : Twelve α) (i : Channel) : α :=
  match i.val with
  | 0 => t.c1
  | 1 => t.c2
  | 2 => t.c3
  | 3 => t.c4
  | 4 => t.c5
  | 5 => t.c6
  | 6 => t.c7
  | 7 => t.c8
  | 8 => t.c9
  | 9 => t.c10
  | 10 => t.c11
  | _ => t.c12

/-- The twelve values of a function of the channel. -/
def Twelve.ofFn {α : Type} (f : Channel → α) : Twelve α :=
  ⟨f 0, f 1, f 2, f 3, f 4, f 5, f 6, f 7, f 8, f 9, f 10, f 11⟩

/-- The bank with channel `i`'s member replaced. -/
def Twelve.set {α : Type} (t : Twelve α) (i : Channel) (a : α) : Twelve α :=
  Twelve.ofFn fun j => if j = i then a else t.get j

/-- The same value for every channel. -/
def Twelve.all {α : Type} (a : α) : Twelve α := Twelve.ofFn fun _ => a

/-- The channels in ascending order. -/
def channels : List Channel := [0, 1, 2, 3, 4, 5, 6, 7, 8, 9, 10, 11]

/-- Four like things, one for each profile slot 0 to 3. -/
structure Four (α : Type) where
  s0 : α
  s1 : α
  s2 : α
  s3 : α
  deriving DecidableEq, Repr

/-- The member of slot `i`. -/
def Four.get {α : Type} (t : Four α) (i : Fin 4) : α :=
  match i.val with
  | 0 => t.s0
  | 1 => t.s1
  | 2 => t.s2
  | _ => t.s3

/-- The four values of a function of the slot number. -/
def Four.ofFn {α : Type} (f : Fin 4 → α) : Four α := ⟨f 0, f 1, f 2, f 3⟩

/-- The bank with slot `i`'s member replaced. -/
def Four.set {α : Type} (t : Four α) (i : Fin 4) (a : α) : Four α :=
  Four.ofFn fun j => if j = i then a else t.get j

end Sys2Proof
end

