-- ==== Sys2Proof/Syntax.lean ====
section
/-! DEFINITION. The commands of the JT1204: one constructor per row of spec/opcode_table.json. A command is a
step of the part, whole and indivisible: an event at a pin, an expiry, a frame on the serial line, or the taking
of the request that stands at the head of the intake queue. -/

namespace Sys2Proof

/-- One of the thirteen measurement inputs (R14). -/
inductive Line where
  /-- The START line. -/
  | start
  /-- The stop line of a channel. -/
  | stop (ch : Channel)
  deriving DecidableEq, Repr

/-- What made a frame a framing error (R137). -/
inductive FramingCause where
  /-- The class byte is not the code of a frame class. -/
  | badClass
  /-- A length above 1,024, or a LINK-ACK of nonzero length. -/
  | badLength
  /-- A LINK-ACK with a nonzero code. -/
  | badLinkAck
  /-- A character whose stop bit was sampled low and that is no break (R132). -/
  | badCharacter
  deriving DecidableEq, Repr

/-- The commands, in the order of spec/opcode_table.json. The nineteen requests and UNKNOWN_REQUEST carry no
operands of their own: their sequence number, code and payload are those of the entry at the head of the
intake queue (R146, R147), where REQUEST_FRAME_ARRIVAL puts them. -/
inductive Instr where
  /-- PIN_RESET (R156): RESET_N is sampled low. -/
  | pinReset
  /-- RESET_N_RELEASE (R156): RESET_N is released; the straps stand at the given levels. -/
  | resetNRelease (baud1 baud0 : Bool)
  /-- REFCLK_STOP (R1). -/
  | refclkStop
  /-- REFCLK_RESUME (R14). -/
  | refclkResume
  /-- START_TRANSITION (R14): the level of START changes. -/
  | startTransition
  /-- STOP_TRANSITION (R14): the level of a stop line changes. -/
  | stopTransition (ch : Channel)
  /-- FILTER_LAPSE (R18) on one line. -/
  | filterLapse (line : Line)
  /-- BLANKING_END (R62) of one channel. -/
  | blankingEnd (ch : Channel)
  /-- WINDOW_EXPIRY (R41). -/
  | windowExpiry
  /-- HOLDOFF_EXPIRY (R88). -/
  | holdoffExpiry
  /-- FRAMING_ERROR (R137), with what made it. -/
  | framingError (cause : FramingCause)
  /-- CRC_ERROR (R138). -/
  | crcError
  /-- MISDIRECTED_FRAME (R138). -/
  | misdirectedFrame
  /-- GAP_TIMEOUT (R139). -/
  | gapTimeout
  /-- BREAK (R140). -/
  | lineBreak
  /-- REQUEST_FRAME_ARRIVAL (R146): a good REQUEST frame with this sequence number, code and payload. -/
  | requestFrameArrival (seq code : Byte) (payload : List Byte)
  /-- LINK_ACK (R165): a good LINK-ACK frame with this sequence number. -/
  | linkAck (seq : Byte)
  /-- IDENTIFY (R154). -/
  | identify
  /-- STATUS (R155). -/
  | status
  /-- SESSION_OPEN (R152). -/
  | sessionOpen
  /-- SESSION_CLOSE (R153). -/
  | sessionClose
  /-- LINK_STATS (R145). -/
  | linkStats
  /-- DEVICE_RESET (R157). -/
  | deviceReset
  /-- PROFILE_CLEAR (R101). -/
  | profileClear
  /-- PROFILE_SET_GLOBAL (R99). -/
  | profileSetGlobal
  /-- PROFILE_SET_CHANNEL (R100). -/
  | profileSetChannel
  /-- PROFILE_READ (R112). -/
  | profileRead
  /-- PROFILE_CHECK (R103). -/
  | profileCheck
  /-- PROFILE_SELECT (R107). -/
  | profileSelect
  /-- ARM (R83). -/
  | arm
  /-- DISARM (R89). -/
  | disarm
  /-- ABORT (R51). -/
  | abort
  /-- START (R49). -/
  | start
  /-- RESULT_READ (R124). -/
  | resultRead
  /-- RESULT_ACK (R126). -/
  | resultAck
  /-- QUEUE_STATUS (R127). -/
  | queueStatus
  /-- UNKNOWN_REQUEST (R150). -/
  | unknownRequest
  /-- FRAME_SENT (R142). -/
  | frameSent
  /-- REQUEST_RESET (R158): the straps stand at the given levels. -/
  | requestReset (baud1 baud0 : Bool)
  /-- REPORT_TIMEOUT (R166) of one slot of the report window. -/
  | reportTimeout (slot : Fin 4)
  /-- BYTE_RECEIVED (R137). -/
  | byteReceived (b : Byte)
  /-- RECEIVE_LINE_HIGH_AGAIN (R132). -/
  | receiveLineHighAgain
  deriving DecidableEq, Repr

end Sys2Proof
end

