-- ==== Sys2Proof/Decode.lean ====
section
/-! DEFINITION. The command a table word spells. No row of spec/opcode_table.json gives bits: the commands are
events and requests, not encoded words, so no word spells one. -/

namespace Sys2Proof

/-- The command that a word of the opcode table spells: none, since every row's list of fields is empty. The bytes
of a frame are read by the receive framer (Sys2Proof.Machine.receiveByte), not here. -/
def decodeTableWord (_nbits _w : Nat) : Option Instr := none

end Sys2Proof
end

