-- ==== Sys2Proof/Config.lean ====
section
/-! DEFINITION. The constants the part fixes, and the free values of the model, which the manual leaves open: the order in
which events of one base period are taken, judged, received and queued. -/

namespace Sys2Proof

/-- How far a transition command takes its transition. A transition passes through the Input Conditioner and reaches its
receiver in one base period (R17, R23, R24), but another event of that base period may fall between its sampling and its
judging (R21, R22), or between its judging and its receipt (R76, R78). What the command leaves, the part takes later in
the same base period. -/
inductive Taking where
  /-- Sampled, judged and received. -/
  | whole
  /-- Sampled and judged: the event it makes is yet to reach its receiver. -/
  | judged
  /-- Sampled only. -/
  | sampled
  deriving DecidableEq, Repr, Inhabited

end Sys2Proof

namespace Sys2Proof.Config

/-- The order in which the part takes events that fall in one base period (R53 to R55, R74 to R78, R90 to R94,
R128 to R130, R139, R158, R169, R170: "taken in one of two orders"). The n-th choice the machine has to make picks
the event at position `eventOrder n`, modulo the number of events that are due. No value is given, so a claim
holds for every order. Assumption 3. -/
opaque eventOrder : Nat → Nat

/-- How far the transition commands of a base period take their transitions (R21, R22, R76, R78). No value is given, so a
claim holds for every choice. Assumption 3. -/
opaque transitionTaking : Nat → Taking

/-- Which of the stop lines whose transitions wait to be judged are judged at a moment inside the engine's entry to
ARMED: before the entry, or while the units are PRIMED under IMMEDIATE (R21, R22, R31, R76, R78). No value is given, so a
claim holds for every choice. Assumption 3. -/
opaque edgesJudged : Nat → ChannelSet

/-- Of which channels the judged stop edges reach their units at such a moment (R21, R22, R76, R78). No value is given,
so a claim holds for every choice. Assumption 3. -/
opaque edgesReceived : Nat → ChannelSet

/-- How many of the events that the Cycle Engine passes at a close enter the event report queue before the LOSS (FULL) of the
same close, modulo their number plus 1 (R118, R161: "Events from different blocks in the same base period enter it in
either order"). No value is given, so a claim holds for every choice. Assumption 25. -/
opaque lossPlace : Nat → Nat

/-- Capacity of the record pool (R116, Table 7-1). -/
def recordCapacity : Nat := 24

/-- Capacity of the channel entry pool (R116). -/
def entryCapacity : Nat := 160

/-- Capacity of the trace timestamp pool (R116). -/
def traceCapacity : Nat := 192

/-- Trace timestamps reserved for, and kept by, a traced channel (R66, 7.3). -/
def traceDepth : Nat := 8

/-- Capacity of the intake queue (R146). -/
def intakeCapacity : Nat := 4

/-- Capacity of the reply queue (R141). -/
def replyCapacity : Nat := 4

/-- Capacity of the reply cache (R148). -/
def cacheCapacity : Nat := 4

/-- Slots of the report window (10.3). -/
def windowCapacity : Nat := 4

/-- Capacity of the event report queue (R162). -/
def eventCapacity : Nat := 16

/-- Transmissions of a report before the session suspends (R166, R167). -/
def maxAttempts : Nat := 4

/-- Greatest payload of a frame, in bytes (R134). -/
def maxPayload : Nat := 1024

/-- Base periods in one unit of holdoff, 10 µs (R10). -/
def holdoffUnit : Nat := 500

/-- Base periods in one unit of report timeout, 10 ms (R11). -/
def timeoutUnit : Nat := 500000

/-- Character times of the gap timeout (R13, R139). -/
def gapCharacters : Nat := 32

/-- Bit times in one character (R13, R131). -/
def characterBits : Nat := 10

/-- Base periods in one bit time at the rate the straps BAUD1, BAUD0 select (R13, Table 8-1). -/
def bitDivisor (baud1 baud0 : Bool) : Nat :=
  match baud1, baud0 with
  | false, false => 434
  | false, true => 108
  | true, false => 54
  | true, true => 27

end Sys2Proof.Config
end

