-- ==== Sys2Proof/Machine/State.lean ====
section
/-! DEFINITION. The state of the JT1204, block by block as Figure 0-1 lays it out, with its values after a reset,
and the reasons a command may stop. Every field is plain data. -/

namespace Sys2Proof.Machine

/-! ### Enumerated values (Table 11-8) -/

/-- Which transitions are edges (R16). -/
inductive EdgeSelection where
  | rising
  | falling
  | both
  deriving DecidableEq, Repr

/-- The start source of a profile (Table 3-2). -/
inductive StartSource where
  | external
  | host
  | either
  | immediate
  deriving DecidableEq, Repr

/-- The form of the start that began a cycle: never EITHER (R33). -/
inductive StartTaken where
  | external
  | host
  | immediate
  deriving DecidableEq, Repr

/-- The overlap policy (R34, R35). -/
inductive OverlapPolicy where
  | ignore
  | restart
  deriving DecidableEq, Repr

/-- The full policy (R117, R118). -/
inductive FullPolicy where
  | hold
  | discard
  deriving DecidableEq, Repr

/-- The states of the Cycle Engine (Figure 3-1). -/
inductive EngineState where
  | idle
  | armed
  | measuring
  | stalled
  | holdoff
  deriving DecidableEq, Repr

/-- The states of a channel unit (Figure 4-1). -/
inductive UnitState where
  | off
  | primed
  | blanked
  | counting
  | done
  | overrun
  | aborted
  deriving DecidableEq, Repr

/-- Why a run ended (Table 5-3). -/
inductive RunEndReason where
  | complete
  | disarmed
  | aborted
  | superseded
  deriving DecidableEq, Repr

/-- What cut a cycle short (R43). -/
inductive AbortReason where
  | host
  | restart
  deriving DecidableEq, Repr

/-- The outcome of a cycle, an abort reason standing in it exactly when it is ABORTED (R43). -/
inductive CycleOutcome where
  | complete
  | partly
  | aborted (reason : AbortReason)
  deriving DecidableEq, Repr

/-- The outcome of one channel in a record (Table 4-2). -/
inductive ChannelOutcome where
  | done
  | overrun
  | aborted
  deriving DecidableEq, Repr

/-- Why a record was lost (R118, R119). -/
inductive LossReason where
  | full
  | abort
  deriving DecidableEq, Repr

/-- The kind of the latest reset (R159). -/
inductive ResetCause where
  | pin
  | request
  deriving DecidableEq, Repr

/-- How a session has results delivered (R151). -/
inductive DeliveryMode where
  | pull
  | push
  deriving DecidableEq, Repr

/-- The reply status codes (Table 9-2). -/
inductive Status where
  | ok
  | format
  | unknown
  | range
  | state
  | source
  | busy
  | stalled
  | inUse
  | notReady
  | noProfile
  | noSession
  | checkFailed
  | empty
  | unknownCycle
  | undelivered
  deriving DecidableEq, Repr

/-! ### Pins and timebase -/

/-- The levels the outside holds on the input pins (Table 0-3), and whether REFCLK runs. -/
structure Pins where
  /-- REFCLK runs (R1). -/
  refclk : Bool
  /-- Level of RESET_N. -/
  resetN : Bool
  /-- Level of the BAUD1 strap. -/
  baud1 : Bool
  /-- Level of the BAUD0 strap. -/
  baud0 : Bool
  /-- Level of RXD. -/
  rxd : Bool
  /-- Level of START. -/
  start : Bool
  /-- Levels of STOP1 to STOP12. -/
  stops : Twelve Bool
  deriving DecidableEq, Repr

/-- The Timebase (Section 1). The divisor in force is the open cycle's (R4, Table 3-4). -/
structure Timebase where
  /-- The epoch counter (R2). -/
  epoch : Epoch
  /-- The tick generator runs (R4). -/
  tickRunning : Bool
  /-- The tick generator's phase (R4). -/
  phase : BitVec 16
  /-- The elapsed tick counter (R6). -/
  elapsed : Ticks
  /-- The elapsed tick counter is counting (R6). -/
  counting : Bool
  deriving DecidableEq, Repr

/-! ### Input Conditioner -/

/-- The Input Conditioner's state for one line (Table 2-1). -/
structure LineState where
  level : Bool
  conditioned : Bool
  edge : EdgeSelection
  spacing : BitVec 16
  /-- The filter state: the sample epoch of the last accepted edge, or none (R18). -/
  filter : Option Epoch
  deriving DecidableEq, Repr

/-- The Input Conditioner (Section 2). -/
structure Conditioner where
  start : LineState
  stops : Twelve LineState
  /-- START edges rejected since the last arm (R27). -/
  rejectedStarts : BitVec 16
  deriving DecidableEq, Repr

/-! ### Profiles -/

/-- The five fields of one channel (Table 6-2). -/
structure ChannelFields where
  stopEdge : EdgeSelection
  spacing : BitVec 16
  quota : Byte
  blanking : BitVec 16
  trace : Bool
  deriving DecidableEq, Repr

/-- The contents of a profile (Tables 6-1 and 6-2). -/
structure Profile where
  channelSet : ChannelSet
  tickDivisor : BitVec 16
  windowLimit : Ticks
  startSource : StartSource
  startEdge : EdgeSelection
  startSpacing : BitVec 16
  overlap : OverlapPolicy
  runLength : BitVec 16
  holdoff : BitVec 16
  full : FullPolicy
  chans : Twelve ChannelFields
  deriving DecidableEq, Repr

/-- A profile slot: EMPTY holds no contents and revision 0, DRAFT and READY hold both (R95, R96). -/
inductive Slot where
  | empty
  | draft (revision : BitVec 16) (profile : Profile)
  | ready (revision : BitVec 16) (profile : Profile)
  deriving DecidableEq, Repr

/-- The active profile: a copy of a slot's contents, its source slot and its source revision (R110). -/
structure ActiveProfile where
  slot : Fin 4
  revision : BitVec 16
  profile : Profile
  deriving DecidableEq, Repr

/-- The Profile Store (Section 6). -/
structure ProfileStore where
  slots : Four Slot
  /-- The pending selection (R105). -/
  selected : Option (Fin 4)
  deriving DecidableEq, Repr

/-! ### Channel units, records and the Cycle Engine -/

/-- One channel unit (Table 4-1). -/
structure ChannelUnit where
  state : UnitState
  cycleOpen : Bool
  quota : Byte
  blanking : BitVec 16
  trace : Bool
  edgeCount : Byte
  firstTicks : Option Ticks
  lastTicks : Option Ticks
  traceList : List Ticks
  early : Byte
  blanked : Byte
  rejected : Byte
  trailing : Byte
  /-- The blanking timer runs toward the blanking delay, on the elapsed tick counter (R8). -/
  blankingTimer : Bool
  deriving DecidableEq, Repr

/-- The part of a record that describes one channel (Table 4-2). The trace field is absent when trace was off. -/
structure ChannelEntry where
  channel : Channel
  outcome : ChannelOutcome
  quota : Byte
  edgeCount : Byte
  firstTicks : Option Ticks
  lastTicks : Option Ticks
  early : Byte
  blanked : Byte
  rejected : Byte
  trailing : Byte
  trace : Option (List Ticks)
  deriving DecidableEq, Repr

/-- The fields latched when a start is taken (Table 3-4). -/
structure OpenCycle where
  number : BitVec 32
  run : BitVec 16
  index : BitVec 16
  slot : Fin 4
  revision : BitVec 16
  source : StartTaken
  stamp : Epoch
  divisor : BitVec 16
  windowLimit : Ticks
  channelSet : ChannelSet
  deriving DecidableEq, Repr

/-- A cycle record (Table 7-2). -/
structure CycleRecord where
  number : BitVec 32
  run : BitVec 16
  index : BitVec 16
  slot : Fin 4
  revision : BitVec 16
  source : StartTaken
  stamp : Epoch
  divisor : BitVec 16
  windowLimit : Ticks
  outcome : CycleOutcome
  closeTicks : Ticks
  overlaps : Byte
  missedBefore : BitVec 16
  /-- Records lost before this one: absent until the record is admitted (R44, R115). -/
  lostBefore : Option (BitVec 16)
  entries : List ChannelEntry
  deriving DecidableEq, Repr

/-- What a record costs beside one record: channel entries and trace timestamps (R116). -/
structure Cost where
  entries : Nat
  traces : Nat
  deriving DecidableEq, Repr

/-- A closed record with its cost and its creation stamp (R9, R42). -/
structure ClosedRecord where
  record : CycleRecord
  cost : Cost
  created : Epoch
  deriving DecidableEq, Repr

/-- The Cycle Engine with the run state and the active profile (Tables 3-1 and 5-1). -/
structure Engine where
  state : EngineState
  cycleCounter : BitVec 32
  /-- The open cycle, if one is open. -/
  cycle : Option OpenCycle
  /-- The overlap count (R28, R34): of the open cycle, and after its close of the cycle last open. -/
  overlaps : Byte
  missed : BitVec 16
  closeBuffer : Option ClosedRecord
  active : Option ActiveProfile
  runNumber : BitVec 16
  cyclesDone : BitVec 16
  stopRequest : Bool
  /-- The holdoff timer: stopped, or the base periods that remain (R10). -/
  holdoffTimer : Option Nat
  /-- Why the last run ended, kept until the next run begins (R87). Where the STATUS reply tells it is assumption
  27. -/
  endReason : Option RunEndReason
  deriving DecidableEq, Repr

/-! ### Result Queue -/

/-- An entry of the Result Queue (7.1). -/
structure QueueEntry where
  record : CycleRecord
  delivered : Bool
  cost : Cost
  created : Epoch
  deriving DecidableEq, Repr

/-- Occupancy of the three pools (R116). -/
structure Pools where
  records : Nat
  entries : Nat
  traces : Nat
  deriving DecidableEq, Repr

/-- The Result Queue (Table 7-1). -/
structure ResultQueue where
  /-- Oldest first. -/
  entries : List QueueEntry
  used : Pools
  pendingLoss : BitVec 16
  totalAdmitted : BitVec 64
  totalLost : BitVec 64
  deriving DecidableEq, Repr

/-! ### Host Link -/

/-- The frame classes (Table 11-1). -/
inductive FrameClass where
  | request
  | reply
  | report
  | linkAck
  deriving DecidableEq, Repr

/-- A complete frame header (R134). -/
structure Header where
  cls : FrameClass
  seq : Byte
  length : BitVec 16
  code : Byte
  deriving DecidableEq, Repr

/-- The receive framer (Figure 8-1). -/
inductive Framer where
  /-- Waiting for a delimiter. -/
  | hunt
  /-- Gathering the header: the bytes so far and the check register. -/
  | header (got : List Byte) (crc : BitVec 16)
  /-- Gathering payload and check: the payload so far, the first check byte if it has come, the check register. -/
  | body (h : Header) (payload : List Byte) (checkLow : Option Byte) (crc : BitVec 16)
  /-- A complete frame at its test: the check register and the check received. Entered and left in one action. -/
  | check (h : Header) (payload : List Byte) (crc received : BitVec 16)
  deriving DecidableEq, Repr

/-- The character receiver of RXD (R132). Ages are base periods since the start bit began. -/
inductive Receiver where
  /-- Waiting for a start bit, which it recognises only once the line has been sampled high. -/
  | waiting (sampledHigh : Bool)
  /-- Returned to waiting by a request reset in this base period (R158): as `waiting false`, but a character that
  completed in this same base period may still reach the framer. -/
  | restarted
  /-- Inside a character: its age and the data bits taken so far, oldest first. -/
  | character (age : Nat) (bits : List Bool)
  /-- Holding a character whose stop bit was sampled low. -/
  | held (age : Nat)
  deriving DecidableEq, Repr

/-- A request in the intake queue (R146). -/
structure Request where
  seq : Byte
  code : Byte
  payload : List Byte
  deriving DecidableEq, Repr

/-- A reply as built: the request's sequence number and code, the status, the detail and what follows (R149). -/
structure Reply where
  seq : Byte
  code : Byte
  status : Status
  detail : Byte
  body : List Byte
  deriving DecidableEq, Repr

/-- A reply waiting in the reply queue; `resets` marks the reply of a DEVICE RESET carried out (R143). -/
structure QueuedReply where
  reply : Reply
  resets : Bool
  deriving DecidableEq, Repr

/-- An event passed to the Host Link, with the fields of its report kind (Table 10-1). -/
inductive Event where
  | runEnd (run : BitVec 16) (reason : RunEndReason) (cyclesDone : BitVec 16)
  | profileTaken (slot : Fin 4) (revision : BitVec 16) (run : BitVec 16)
  | stall (left : Bool) (cycle : BitVec 32)
  | loss (cycle : BitVec 32) (reason : LossReason) (missed : BitVec 16)
  deriving DecidableEq, Repr

/-- An event report in the event report queue (R160, R161). -/
structure EventReport where
  created : Epoch
  droppedBefore : Byte
  event : Event
  deriving DecidableEq, Repr

/-- Whether a held report waits to be sent again, and what made it due: its timer (R166) or a resumption (R168). -/
inductive Due where
  | no
  /-- Its timer, in this base period: a LINK-ACK of the same base period removes it before it can be sent (R169). -/
  | justTimed
  /-- Its timer, in an earlier base period. -/
  | byTimer
  | byResume
  deriving DecidableEq, Repr

/-- A held slot of the report window (Table 10-2). -/
structure HeldReport where
  /-- Which of the four slots it is. -/
  slot : Fin 4
  frame : List Byte
  seq : Byte
  attempts : Nat
  /-- The report timer: stopped, or the base periods that remain (R11). -/
  timer : Option Nat
  due : Due
  deriving DecidableEq, Repr

/-- Where a frame on the TXD line came from (R142). -/
inductive FrameSource where
  | reply (resets : Bool)
  | report (slot : Fin 4)
  deriving DecidableEq, Repr

/-- The transmitter (R133). -/
inductive Transmitter where
  | idle
  /-- A report that its timer made due in this base period has been chosen: its frame begins, unless a LINK-ACK of the
  same base period removes it (R169, assumption 26). `before` is the report retransmissions statistic without it. -/
  | chosen (frame : List Byte) (slot : Fin 4) (before : BitVec 32)
  /-- Sending a frame, its last base period lying `left` base periods ahead. -/
  | sending (frame : List Byte) (left : Nat) (source : FrameSource)
  /-- The last byte has left in this base period; idle from the next. -/
  | ended
  deriving DecidableEq, Repr

/-- The session parameters (R151). Bits 0 to 3 of the notify set are RUN_END, PROFILE_TAKEN, STALL, LOSS (R172). -/
structure SessionParams where
  mode : DeliveryMode
  notify : BitVec 4
  timeout : Byte
  deriving DecidableEq, Repr

/-- The session state, with parameters exactly while OPEN or SUSPENDED (R151). -/
inductive Session where
  | closed
  | opened (p : SessionParams)
  | suspended (p : SessionParams)
  deriving DecidableEq, Repr

/-- The thirteen link statistics (Table 8-2). -/
structure LinkStats where
  goodFrames : BitVec 32
  crcErrors : BitVec 32
  framingErrors : BitVec 32
  gapTimeouts : BitVec 32
  breaks : BitVec 32
  intakeOverflows : BitVec 32
  duplicatesCached : BitVec 32
  duplicatesInFlight : BitVec 32
  misdirected : BitVec 32
  strayAcks : BitVec 32
  retransmissions : BitVec 32
  suspensions : BitVec 32
  eventsDropped : BitVec 32
  deriving DecidableEq, Repr

/-- The Host Link (Table 9-3). -/
structure HostLink where
  receiver : Receiver
  framer : Framer
  /-- The gap timer: stopped, or the base periods that remain (R139). -/
  gapTimer : Option Nat
  intake : List Request
  /-- The model's own: the cached replies that requests in the intake queue found when their frames were handed on (R174,
  assumption 28). -/
  copies : List Reply
  replies : List QueuedReply
  cache : List Reply
  transmitter : Transmitter
  session : Session
  /-- The held slots of the report window, in the order in which they were first sent. -/
  window : List HeldReport
  reportSeq : Byte
  /-- The event report queue, oldest first. -/
  events : List EventReport
  /-- The dropped count (R162). -/
  dropped : Byte
  stats : LinkStats
  cause : ResetCause
  /-- The BAUD1 strap level sampled at the last reset (R131). -/
  baud1 : Bool
  /-- The BAUD0 strap level sampled at the last reset (R131). -/
  baud0 : Bool
  /-- The sequence number of a DEVICE RESET taken and not yet in effect (R146, R157). -/
  resetTaken : Option Byte
  /-- The DEVICE RESET reply's last byte has left: the reset takes effect in this base period (R158). -/
  resetDue : Bool
  /-- The model's own: a LINK STATS reply has been built whose clear flag is yes, and the statistics are yet to be
  cleared in this base period (R145, assumption 20). -/
  clearDue : Bool
  deriving DecidableEq, Repr

/-! ### Events of one base period -/

/-- An edge the Input Conditioner has judged, on its way to its receiver: qualified when accepted, rejected when not
(R17, R23, R24). -/
structure HeldEdge where
  line : Line
  /-- The edge's direction: rising, or else falling (R17). -/
  rising : Bool
  accepted : Bool
  deriving DecidableEq, Repr

/-- What sampling has found in the present base period (R14, R132). A transition's sample epoch is that of this base
period (R3), and the line's sampled level is already the new one, so nothing later takes it back.
The model's own (assumption 19). -/
structure Sampling where
  /-- The lines that have made their one transition of this base period (R3, R17). -/
  moved : List Line
  /-- The lines whose transition is not yet judged. -/
  unjudged : List Line
  /-- The edges judged and not yet received. -/
  judged : List HeldEdge
  /-- What the character receiver found on RXD and the Host Link has not yet taken. -/
  found : List Instr
  deriving DecidableEq, Repr

/-- Nothing found. -/
def Sampling.nothing : Sampling := ⟨[], [], [], []⟩

/-! ### The whole part -/

/-- The state of the JT1204. -/
structure State where
  pins : Pins
  /-- RESET_N has been sampled low and not yet released (R156). -/
  held : Bool
  time : Timebase
  inputs : Conditioner
  engine : Engine
  units : Twelve ChannelUnit
  store : ProfileStore
  queue : ResultQueue
  link : HostLink
  /-- The model's own: what sampling has found in this base period. -/
  sampled : Sampling
  /-- The model's own: how far the transition commands of this base period take their transitions (assumption 3). -/
  taking : Taking
  /-- The model's own: how many free choices have been made, the argument of the free values of Config. -/
  choices : Nat
  /-- The commands that wait, first in, first out. -/
  pending : List Instr
  deriving DecidableEq, Repr

/-- Why the part stops: it has no such reason. The manual names no event that stops the JT1204; a bad frame is
counted, a bad request is answered with a refusal, and a full queue holds or loses a record. No command raises a
fault, which is safe. -/
inductive Fault where
  deriving DecidableEq, Repr

/-- Why a command has no outcome. -/
inductive Refusal where
  /-- Raised by exec's arm of a command that has no meaning yet: no arm raises it. Safe. -/
  | notModelled (mnemonic : String)
  /-- Raised by REQUEST_FRAME_ARRIVAL with more than 1,024 payload bytes: no frame carries them (R134). Safe. -/
  | payloadTooLong
  deriving DecidableEq, Repr

/-! ### Reset values -/

/-- The default of every channel field (Table 6-2). -/
def ChannelFields.default : ChannelFields where
  stopEdge := .rising
  spacing := 0
  quota := 1
  blanking := 0
  trace := false

/-- The default of every profile field (Table 6-1). -/
def Profile.default : Profile where
  channelSet := 0
  tickDivisor := 50
  windowLimit := 1000000
  startSource := .external
  startEdge := .rising
  startSpacing := 0
  overlap := .ignore
  runLength := 1
  holdoff := 0
  full := .hold
  chans := Twelve.all ChannelFields.default

/-- A line at its sampled level under the reset conditioning: RISING, spacing 0, no previous edge (R19, R26). -/
def LineState.atReset (level : Bool) : LineState where
  level := level
  conditioned := true
  edge := .rising
  spacing := 0
  filter := none

/-- A unit that is OFF: every count 0, every time absent, every list empty (R57). It holds no settings; the values its
settings fields have are a DESIGN CHOICE, assumption 11. -/
def ChannelUnit.offUnit : ChannelUnit where
  state := .off
  cycleOpen := false
  quota := 0
  blanking := 0
  trace := false
  edgeCount := 0
  firstTicks := none
  lastTicks := none
  traceList := []
  early := 0
  blanked := 0
  rejected := 0
  trailing := 0
  blankingTimer := false

/-- The timebase after a reset (Table 1-4). -/
def Timebase.atReset : Timebase where
  epoch := 0
  tickRunning := false
  phase := 0
  elapsed := 0
  counting := false

/-- The Input Conditioner after a reset, each line at a given sampled level (R14, R26, R27). -/
def Conditioner.atReset (start : Bool) (stops : Twelve Bool) : Conditioner where
  start := LineState.atReset start
  stops := Twelve.ofFn fun i => LineState.atReset (stops.get i)
  rejectedStarts := 0

/-- The Cycle Engine after a reset (R28, R79, R110). -/
def Engine.atReset : Engine where
  state := .idle
  cycleCounter := 0
  cycle := none
  overlaps := 0
  missed := 0
  closeBuffer := none
  active := none
  runNumber := 0
  cyclesDone := 0
  stopRequest := false
  holdoffTimer := none
  endReason := none

/-- The Profile Store after a reset (R95, R105). -/
def ProfileStore.atReset : ProfileStore where
  slots := Four.ofFn fun _ => .empty
  selected := none

/-- The Result Queue after a reset (R114). -/
def ResultQueue.atReset : ResultQueue where
  entries := []
  used := ⟨0, 0, 0⟩
  pendingLoss := 0
  totalAdmitted := 0
  totalLost := 0

/-- The link statistics after a reset or a clearing (R144). -/
def LinkStats.zero : LinkStats := ⟨0, 0, 0, 0, 0, 0, 0, 0, 0, 0, 0, 0, 0⟩

/-- The Host Link after a reset of the given cause with the straps at the given levels (Table 9-3). -/
def HostLink.atReset (cause : ResetCause) (baud1 baud0 : Bool) : HostLink where
  receiver := .waiting false
  framer := .hunt
  gapTimer := none
  intake := []
  copies := []
  replies := []
  cache := []
  transmitter := .idle
  session := .closed
  window := []
  reportSeq := 0
  events := []
  dropped := 0
  stats := LinkStats.zero
  cause := cause
  baud1 := baud1
  baud0 := baud0
  resetTaken := none
  resetDue := false
  clearDue := false

/-- The pin levels right after reset. DESIGN CHOICE, assumption 1: the lines and the straps low, RXD at its idle
level, REFCLK running and RESET_N released. -/
def Pins.atReset : Pins where
  refclk := true
  resetN := true
  baud1 := false
  baud0 := false
  rxd := true
  start := false
  stops := Twelve.all false

/-- The machine in the first base period after RESET_N is released (R156): every block at its reset values, the
straps and the lines sampled, RXD sampled at its idle level. -/
def State.reset : State where
  pins := Pins.atReset
  held := false
  time := Timebase.atReset
  inputs := Conditioner.atReset Pins.atReset.start Pins.atReset.stops
  engine := Engine.atReset
  units := Twelve.all ChannelUnit.offUnit
  store := ProfileStore.atReset
  queue := ResultQueue.atReset
  link := { HostLink.atReset .pin Pins.atReset.baud1 Pins.atReset.baud0 with
    receiver := .waiting Pins.atReset.rxd }
  sampled := Sampling.nothing
  taking := .whole
  choices := 0
  pending := []

end Sys2Proof.Machine
end

