-- ==== Sys2Proof/Machine/Arith.lean ====
section
/-! DEFINITION. The arithmetic the blocks share: saturating and wrapping counts (0.5), the byte order of fields
(R171), and the comparison of epoch stamps (R2, R164). -/

namespace Sys2Proof.Machine

/-- One more, stopping at the greatest value (0.5, Saturating and wrapping counts). -/
def satInc {w : Nat} (x : BitVec w) : BitVec w :=
  if x = BitVec.allOnes w then x else x + 1

/-- Two counts added, stopping at the greatest value (R162). -/
def satAdd {w : Nat} (x y : BitVec w) : BitVec w :=
  if x.toNat + y.toNat < 2 ^ w then x + y else BitVec.allOnes w

/-- One more, wrapping from the greatest value to 1 (R80, R96). -/
def wrapToOne (x : BitVec 16) : BitVec 16 :=
  if x = BitVec.allOnes 16 then 1 else x + 1

/-- The `k` low bytes of a number, least significant first (R171). -/
def littleEndian : Nat → Nat → List Byte
  | 0, _ => []
  | k + 1, n => BitVec.ofNat 8 n :: littleEndian k (n / 256)

/-- The number whose bytes, least significant first, are given (R171). -/
def ofLittleEndian : List Byte → Nat
  | [] => 0
  | b :: bs => b.toNat + 256 * ofLittleEndian bs

/-- A flag as one byte, 0 or 1. -/
def flagByte (b : Bool) : Byte := if b then 1 else 0

/-- The distance from one epoch to a later one, modulo 2^48 (R2). -/
def epochDistance (fromEpoch toEpoch : Epoch) : Nat := (toEpoch - fromEpoch).toNat

/-- Stamp `a` is earlier than stamp `b`: the distance from a to b is 1 to 2^47 − 1 (R164). -/
def stampEarlier (a b : Epoch) : Bool :=
  decide (1 ≤ epochDistance a b) && decide (epochDistance a b < 2 ^ 47)

/-- The last `n` members of a list. -/
def keepLast {α : Type} (n : Nat) (l : List α) : List α := l.drop (l.length - n)

/-- A running count-down timer after one base period (R10, R11). -/
def timerTick (t : Option Nat) : Option Nat := t.map (· - 1)

end Sys2Proof.Machine
end

