-- ==== Sys2Proof/Machine/Inputs.lean ====
section
/-! DEFINITION. The Input Conditioner (Section 2): edge selection, the spacing filter, lapse and clearing, and the
conditioning a profile brings. -/

namespace Sys2Proof.Machine

/-- What the Input Conditioner makes of a transition (R16, R17). -/
inductive Judgement where
  /-- Not an edge: no event. -/
  | dropped
  /-- A qualified edge. -/
  | qualified
  /-- A rejected edge. -/
  | rejected
  deriving DecidableEq, Repr

/-- Whether a transition to the given new level is an edge under a selection (R16). -/
def EdgeSelection.takes (sel : EdgeSelection) (newLevel : Bool) : Bool :=
  match sel with
  | .rising => newLevel
  | .falling => !newLevel
  | .both => true

/-- The spacing filter's judgement of an edge (R17): rejected when it lies nearer than the spacing to the last
accepted edge. -/
def spacingJudges (l : LineState) (now : Epoch) : Judgement :=
  match l.filter with
  | none => .qualified
  | some e => if epochDistance e now < l.spacing.toNat then .rejected else .qualified

/-- A transition sampled on a line: its level changes (R14). -/
def flipLevel (l : LineState) : LineState := { l with level := !l.level }

/-- A transition sampled at epoch `now`, its line already at the new level, is judged: on a conditioned line a selected
transition is an edge, and an accepted edge's epoch becomes the filter state (R16, R17, R18, R25). -/
def judgeTransition (l : LineState) (now : Epoch) : LineState × Judgement :=
  if l.conditioned && l.edge.takes l.level then
    match spacingJudges l now with
    | .qualified => ({ l with filter := some now }, .qualified)
    | j => (l, j)
  else (l, .dropped)

/-- The event the judgement of a transition makes, on its way to its receiver, with the direction of the edge, whose line is
already at the level `level` (R17, R23, R24). -/
def heldEdges (line : Line) (level : Bool) (j : Judgement) : List HeldEdge :=
  match j with
  | .dropped => []
  | .qualified => [⟨line, level, true⟩]
  | .rejected => [⟨line, level, false⟩]

/-- The held epoch's distance has reached the spacing (R18). -/
def LineState.lapseDue (l : LineState) (now : Epoch) : Bool :=
  match l.filter with
  | none => false
  | some e => decide (l.spacing.toNat ≤ epochDistance e now)

/-- Lapse: a held epoch whose distance has reached the spacing becomes no previous edge (R18). -/
def lapseFilter (l : LineState) (now : Epoch) : LineState :=
  if l.lapseDue now then { l with filter := none } else l

/-- The filter state of a conditioned stop line is cleared (R20). -/
def clearFilter (l : LineState) : LineState :=
  if l.conditioned then { l with filter := none } else l

/-- Taking a start clears the filter state of every conditioned stop line and leaves START's (R20). -/
def clearStopFilters (c : Conditioner) : Conditioner :=
  { c with stops := Twelve.ofFn fun i => clearFilter (c.stops.get i) }

/-- Channel `i` is a member of the set (R172). -/
def inSet (set : ChannelSet) (i : Channel) : Bool := set.getLsbD i.val

/-- A line under new settings, its level kept and its filter state cleared (R15, R19). -/
def conditionLine (l : LineState) (on : Bool) (edge : EdgeSelection) (spacing : BitVec 16) : LineState :=
  { level := l.level, conditioned := on, edge := edge, spacing := spacing, filter := none }

/-- Reconditioning under a profile (R15, R19): START always, STOPn when channel n is in the set. -/
def recondition (p : Profile) (c : Conditioner) : Conditioner :=
  { c with
    start := conditionLine c.start true p.startEdge p.startSpacing
    stops := Twelve.ofFn fun i =>
      conditionLine (c.stops.get i) (inSet p.channelSet i) (p.chans.get i).stopEdge (p.chans.get i).spacing }

/-- The state of a line. -/
def Conditioner.line (c : Conditioner) : Line → LineState
  | .start => c.start
  | .stop ch => c.stops.get ch

/-- The conditioner with a line in the given state. -/
def Conditioner.setLine (c : Conditioner) (line : Line) (l : LineState) : Conditioner :=
  match line with
  | .start => { c with start := l }
  | .stop ch => { c with stops := c.stops.set ch l }

/-- The level the outside holds on a line. -/
def Pins.lineLevel (p : Pins) : Line → Bool
  | .start => p.start
  | .stop ch => p.stops.get ch

/-- The outside holds a line at a level. -/
def Pins.setLine (p : Pins) (line : Line) (v : Bool) : Pins :=
  match line with
  | .start => { p with start := v }
  | .stop ch => { p with stops := p.stops.set ch v }

end Sys2Proof.Machine
end

