-- ==== Sys2Proof/Machine/Units.lean ====
section
/-! DEFINITION. The channel units (Section 4): entry to PRIMED and OFF, the start, blanking, counting toward the
quota, the edges that are not counted, the conclusions, and the channel entry. -/

namespace Sys2Proof.Machine

/-- DONE, OVERRUN and ABORTED are the concluded states (Figure 4-1). -/
def UnitState.concluded : UnitState → Bool
  | .done => true
  | .overrun => true
  | .aborted => true
  | .off => false
  | .primed => false
  | .blanked => false
  | .counting => false

/-- Entry to PRIMED: early count 0, no cycle open (R58). The settings of the last cycle, which R61 has a unit hold until its
cycle closes, stay in their fields, and OFF's where there was none (DESIGN CHOICE, assumption 11). -/
def primeUnit (u : ChannelUnit) : ChannelUnit :=
  { u with state := .primed, early := 0, cycleOpen := false }

/-- A start taken: settings read, counts, times and list cleared but for the early count, and BLANKED or, with a
blanking delay of 0, COUNTING (R61). -/
def startUnit (f : ChannelFields) (u : ChannelUnit) : ChannelUnit where
  state := if f.blanking = 0 then .counting else .blanked
  cycleOpen := true
  quota := f.quota
  blanking := f.blanking
  trace := f.trace
  edgeCount := 0
  firstTicks := none
  lastTicks := none
  traceList := []
  early := u.early
  blanked := 0
  rejected := 0
  trailing := 0
  blankingTimer := !decide (f.blanking = 0)

/-- A restarting start: as a start, with an early count of 0 (R63). -/
def restartUnit (f : ChannelFields) (u : ChannelUnit) : ChannelUnit :=
  startUnit f { u with early := 0 }

/-- The blanking delay has been reached on the elapsed tick counter (R8). -/
def ChannelUnit.blankingDue (u : ChannelUnit) (elapsed : Ticks) : Bool :=
  decide (u.state = .blanked) && u.blankingTimer && decide (u.blanking.toNat ≤ elapsed.toNat)

/-- The end of the blanking: BLANKED to COUNTING (R62). -/
def endBlanking (elapsed : Ticks) (u : ChannelUnit) : ChannelUnit :=
  if u.blankingDue elapsed then { u with state := .counting, blankingTimer := false } else u

/-- A counted edge at time `t` (R64, R65, R66). -/
def countEdge (t : Ticks) (u : ChannelUnit) : ChannelUnit :=
  { u with
    edgeCount := u.edgeCount + 1
    firstTicks := if u.edgeCount = 0 then some t else u.firstTicks
    lastTicks := some t
    traceList := if u.trace && decide (u.traceList.length < Config.traceDepth) then u.traceList ++ [t] else u.traceList
    state := if u.edgeCount + 1 = u.quota then .done else .counting }

/-- A qualified edge of time `t` reaches a unit (Figure 4-1; R57, R60, R62, R64, R67). -/
def qualifiedEdge (t : Ticks) (u : ChannelUnit) : ChannelUnit :=
  match u.state with
  | .off => u
  | .primed => { u with early := satInc u.early }
  | .blanked => { u with blanked := satInc u.blanked }
  | .counting => countEdge t u
  | .done => if u.cycleOpen then { u with trailing := satInc u.trailing } else u
  | .overrun => u
  | .aborted => u

/-- A rejected edge reaches a unit (Figure 4-1; R68). -/
def rejectedEdge (u : ChannelUnit) : ChannelUnit :=
  match u.state with
  | .off => u
  | .primed => u
  | .blanked => { u with rejected := satInc u.rejected }
  | .counting => { u with rejected := satInc u.rejected }
  | .done => if u.cycleOpen then { u with rejected := satInc u.rejected } else u
  | .overrun => u
  | .aborted => u

/-- A unit still BLANKED or COUNTING concludes `how`, its blanking timer stopping; others are left (R69, R70). -/
def concludeUnit (how : UnitState) (u : ChannelUnit) : ChannelUnit :=
  match u.state with
  | .blanked => { u with state := how, blankingTimer := false }
  | .counting => { u with state := how, blankingTimer := false }
  | .off => u
  | .primed => u
  | .done => u
  | .overrun => u
  | .aborted => u

/-- The close as it reaches a unit: the cycle is no longer open and the blanking timer stops (R42, R71). The settings stay in
their fields (DESIGN CHOICE, assumption 11). -/
def closeUnit (u : ChannelUnit) : ChannelUnit :=
  { u with cycleOpen := false, blankingTimer := false }

/-- The outcome a concluded unit gives its entry (Table 4-2). A close finds every unit of the set concluded (R71). -/
def UnitState.outcome : UnitState → ChannelOutcome
  | .done => .done
  | .overrun => .overrun
  | .aborted => .aborted
  | .off => .aborted
  | .primed => .aborted
  | .blanked => .aborted
  | .counting => .aborted

/-- The channel entry a unit gives at the close (Table 4-2): times present when an edge was counted, the trace
when trace was on. -/
def channelEntry (ch : Channel) (u : ChannelUnit) : ChannelEntry where
  channel := ch
  outcome := u.state.outcome
  quota := u.quota
  edgeCount := u.edgeCount
  firstTicks := if u.edgeCount = 0 then none else u.firstTicks
  lastTicks := if u.edgeCount = 0 then none else u.lastTicks
  early := u.early
  blanked := u.blanked
  rejected := u.rejected
  trailing := u.trailing
  trace := if u.trace then some u.traceList else none

/-- The members of a channel set in ascending order. -/
def setMembers (set : ChannelSet) : List Channel := channels.filter (inSet set)

/-- Every unit of a set satisfies a test. -/
def allUnits (set : ChannelSet) (units : Twelve ChannelUnit) (test : ChannelUnit → Bool) : Bool :=
  (setMembers set).all fun i => test (units.get i)

/-- An operation on each unit of a set; the others are left. -/
def mapUnits (set : ChannelSet) (f : ChannelUnit → ChannelUnit) (units : Twelve ChannelUnit) : Twelve ChannelUnit :=
  Twelve.ofFn fun i => if inSet set i then f (units.get i) else units.get i

/-- Entry of the engine to ARMED: units of the set to PRIMED, the others to OFF (R58). -/
def armUnits (set : ChannelSet) (units : Twelve ChannelUnit) : Twelve ChannelUnit :=
  Twelve.ofFn fun i => if inSet set i then primeUnit (units.get i) else ChannelUnit.offUnit

/-- A start taken by every unit of the profile's set (R61). -/
def startUnits (p : Profile) (units : Twelve ChannelUnit) : Twelve ChannelUnit :=
  Twelve.ofFn fun i => if inSet p.channelSet i then startUnit (p.chans.get i) (units.get i) else units.get i

/-- A restarting start taken by every unit of the profile's set (R63). -/
def restartUnits (p : Profile) (units : Twelve ChannelUnit) : Twelve ChannelUnit :=
  Twelve.ofFn fun i => if inSet p.channelSet i then restartUnit (p.chans.get i) (units.get i) else units.get i

end Sys2Proof.Machine
end

