-- ==== Sys2Proof/Machine/Queue.lean ====
section
/-! DEFINITION. The Result Queue (Section 7): the cost of a record, admission, loss, delivery and release. -/

namespace Sys2Proof.Machine

/-- A record's cost: an entry for each channel of the set, and 8 timestamps for each that had trace on (R116). -/
def recordCost (set : ChannelSet) (units : Twelve ChannelUnit) : Cost where
  entries := (setMembers set).length
  traces := Config.traceDepth * ((setMembers set).filter fun i => (units.get i).trace).length

/-- Some record in the queue carries the cycle number. -/
def ResultQueue.holds (q : ResultQueue) (n : BitVec 32) : Bool := q.entries.any fun e => decide (e.record.number = n)

/-- The record fits: each cost is at most the free room of its pool, and its cycle number is not in the queue
(R116, R121). -/
def ResultQueue.fits (q : ResultQueue) (r : ClosedRecord) : Bool :=
  decide (q.used.records + 1 ≤ Config.recordCapacity) && decide (q.used.entries + r.cost.entries ≤ Config.entryCapacity)
    && decide (q.used.traces + r.cost.traces ≤ Config.traceCapacity) && !q.holds r.record.number

/-- Admission of a record that fits (R116): stamped with the pending-loss count, appended undelivered, counted. -/
def admitRecord (r : ClosedRecord) (q : ResultQueue) : ResultQueue where
  entries := q.entries ++
    [{ record := { r.record with lostBefore := some q.pendingLoss }, delivered := false, cost := r.cost, created := r.created }]
  used := ⟨q.used.records + 1, q.used.entries + r.cost.entries, q.used.traces + r.cost.traces⟩
  pendingLoss := 0
  totalAdmitted := q.totalAdmitted + 1
  totalLost := q.totalLost

/-- A record counted lost (R118, R119). -/
def countLoss (q : ResultQueue) : ResultQueue :=
  { q with pendingLoss := satInc q.pendingLoss, totalLost := q.totalLost + 1 }

/-- The entry at a position, counted from 0 at the oldest. -/
def ResultQueue.at (q : ResultQueue) (n : Nat) : Option QueueEntry := q.entries[n]?

/-- The entry at a position becomes delivered (R123). -/
def markDelivered (n : Nat) (q : ResultQueue) : ResultQueue :=
  { q with entries := q.entries.modify n fun e => { e with delivered := true } }

/-- The position of the record of a cycle number (R125). -/
def ResultQueue.position (q : ResultQueue) (n : BitVec 32) : Option Nat :=
  q.entries.findIdx? fun e => decide (e.record.number = n)

/-- The position of the oldest undelivered record (R164). -/
def ResultQueue.oldestUndelivered (q : ResultQueue) : Option Nat :=
  q.entries.findIdx? fun e => !e.delivered

/-- The sums of the costs of entries. -/
def entryCosts (l : List QueueEntry) : Nat := (l.map fun e => e.cost.entries).sum
/-- The sums of the trace costs of entries. -/
def traceCosts (l : List QueueEntry) : Nat := (l.map fun e => e.cost.traces).sum

/-- Removal of the `n` oldest records: each one's cost leaves the pools (R126). -/
def releaseRecords (n : Nat) (q : ResultQueue) : ResultQueue :=
  { q with
    entries := q.entries.drop n
    used := ⟨q.used.records - (q.entries.take n).length, q.used.entries - entryCosts (q.entries.take n),
      q.used.traces - traceCosts (q.entries.take n)⟩ }

end Sys2Proof.Machine
end

