-- ==== Sys2Proof/Machine/Frames.lean ====
section
/-! DEFINITION. Frames on the serial line (Sections 8.2 and 11.2): the check, the header codes, and a frame as
bytes. -/

namespace Sys2Proof.Machine

/-- The check register before the first byte (R136). -/
def crcStart : BitVec 16 := 0xFFFF

/-- One bit into the check register (R136): shift toward the most significant end; exclusive-or with 0x1021 when
the bit shifted out differs from the incoming bit. -/
def crcBit (crc : BitVec 16) (bit : Bool) : BitVec 16 :=
  let shifted := crc <<< 1
  if crc.msb != bit then shifted ^^^ 0x1021 else shifted

/-- One byte into the check register, most significant bit first (R136). -/
def crcByte (crc : BitVec 16) (b : Byte) : BitVec 16 :=
  [7, 6, 5, 4, 3, 2, 1, 0].foldl (fun r i => crcBit r (b.getLsbD i)) crc

/-- The check register over a list of bytes (R136). -/
def crcOver (crc : BitVec 16) (bytes : List Byte) : BitVec 16 := bytes.foldl crcByte crc

/-- The code of a frame class (Table 11-1). -/
def FrameClass.code : FrameClass → Byte
  | .request => 0x01
  | .reply => 0x02
  | .report => 0x03
  | .linkAck => 0x04

/-- The frame class a class byte names (Table 11-1). -/
def FrameClass.ofByte (b : Byte) : Option FrameClass :=
  if b = 0x01 then some .request
  else if b = 0x02 then some .reply
  else if b = 0x03 then some .report
  else if b = 0x04 then some .linkAck
  else none

/-- The delimiter (R134). -/
def delimiter : Byte := 0xC5

/-- The bytes of a frame from its class to its last payload byte, which the check covers (R136). -/
def checkedBytes (cls : FrameClass) (seq code : Byte) (payload : List Byte) : List Byte :=
  [cls.code, seq] ++ littleEndian 2 payload.length ++ [code] ++ payload

/-- A complete frame (Table 11-1). -/
def frameBytes (cls : FrameClass) (seq code : Byte) (payload : List Byte) : List Byte :=
  let covered := checkedBytes cls seq code payload
  delimiter :: covered ++ littleEndian 2 (crcOver crcStart covered).toNat

/-- Base periods that lie between the first and the last base period of a frame on the line (R133). -/
def frameSpan (divisor : Nat) (frame : List Byte) : Nat := Config.characterBits * divisor * frame.length - 1

/-- The code of a reply status (Table 11-8). -/
def Status.code : Status → Byte
  | .ok => 0x00
  | .format => 0x01
  | .unknown => 0x02
  | .range => 0x03
  | .state => 0x04
  | .source => 0x05
  | .busy => 0x06
  | .stalled => 0x07
  | .inUse => 0x08
  | .notReady => 0x09
  | .noProfile => 0x0A
  | .noSession => 0x0B
  | .checkFailed => 0x0C
  | .empty => 0x0D
  | .unknownCycle => 0x0E
  | .undelivered => 0x0F

/-- A reply's frame: status, detail, then the rest (R149, 11.4). -/
def replyFrame (r : Reply) : List Byte := frameBytes .reply r.seq r.code (r.status.code :: r.detail :: r.body)

end Sys2Proof.Machine
end

