-- ==== Sys2Proof/Machine/Formats.lean ====
section
/-! DEFINITION. Byte layouts (Section 11): the enumerated codes, the cycle record, the profile block, and the
payloads of replies and reports. -/

namespace Sys2Proof.Machine

/-- Engine state codes (Table 11-8). -/
def EngineState.code : EngineState → Byte
  | .idle => 0
  | .armed => 1
  | .measuring => 2
  | .stalled => 3
  | .holdoff => 4

/-- Session state codes (Table 11-8). -/
def Session.code : Session → Byte
  | .closed => 0
  | .opened _ => 1
  | .suspended _ => 2

/-- Slot state codes (Table 11-8). -/
def Slot.code : Slot → Byte
  | .empty => 0
  | .draft _ _ => 1
  | .ready _ _ => 2

/-- A slot's revision, 0 when EMPTY (R96). -/
def Slot.revision : Slot → BitVec 16
  | .empty => 0
  | .draft r _ => r
  | .ready r _ => r

/-- A slot's contents. -/
def Slot.contents : Slot → Option Profile
  | .empty => none
  | .draft _ p => some p
  | .ready _ p => some p

/-- Start source codes (Table 11-8). -/
def StartSource.code : StartSource → Byte
  | .external => 0
  | .host => 1
  | .either => 2
  | .immediate => 3

/-- The code of the start source taken, never EITHER (Table 11-9). -/
def StartTaken.code : StartTaken → Byte
  | .external => 0
  | .host => 1
  | .immediate => 3

/-- Edge selection codes (Table 11-8). -/
def EdgeSelection.code : EdgeSelection → Byte
  | .rising => 0
  | .falling => 1
  | .both => 2

/-- Overlap policy codes (Table 11-8). -/
def OverlapPolicy.code : OverlapPolicy → Byte
  | .ignore => 0
  | .restart => 1

/-- Full policy codes (Table 11-8). -/
def FullPolicy.code : FullPolicy → Byte
  | .hold => 0
  | .discard => 1

/-- Run end reason codes (Table 11-8). -/
def RunEndReason.code : RunEndReason → Byte
  | .complete => 0
  | .disarmed => 1
  | .aborted => 2
  | .superseded => 3

/-- Cycle outcome codes (Table 11-8). -/
def CycleOutcome.code : CycleOutcome → Byte
  | .complete => 0
  | .partly => 1
  | .aborted _ => 2

/-- Abort reason codes, 0 when absent (Table 11-8). -/
def CycleOutcome.reasonCode : CycleOutcome → Byte
  | .complete => 0
  | .partly => 0
  | .aborted .host => 1
  | .aborted .restart => 2

/-- Channel outcome codes (Table 11-8). -/
def ChannelOutcome.code : ChannelOutcome → Byte
  | .done => 0
  | .overrun => 1
  | .aborted => 2

/-- Loss reason codes (Table 11-7). -/
def LossReason.code : LossReason → Byte
  | .full => 0
  | .abort => 1

/-- Reset cause codes (Table 11-5). -/
def ResetCause.code : ResetCause → Byte
  | .pin => 0
  | .request => 1

/-- A word as the bytes of its width (R171). -/
def bytesOf {w : Nat} (k : Nat) (x : BitVec w) : List Byte := littleEndian k x.toNat

/-- A slot number as a byte. -/
def slotByte (k : Fin 4) : Byte := BitVec.ofNat 8 k.val

/-- A channel number, 1 to 12, as a byte. -/
def channelByte (ch : Channel) : Byte := BitVec.ofNat 8 (ch.val + 1)

/-- A count that fits one byte. -/
def countByte (n : Nat) : Byte := BitVec.ofNat 8 n

/-- The channel entry's presence byte (Table 11-10). -/
def presenceByte (e : ChannelEntry) : Byte :=
  (if e.firstTicks.isSome then 0x01 else 0)
    ||| match e.trace with
      | none => 0
      | some l => 0x02 ||| BitVec.ofNat 8 (16 * l.length)

/-- A time that is sent only when present. -/
def optionalTicks : Option Ticks → List Byte
  | none => []
  | some t => bytesOf 4 t

/-- A channel entry (Table 11-10). -/
def entryBytes (e : ChannelEntry) : List Byte :=
  [channelByte e.channel, presenceByte e, e.outcome.code, e.quota, e.edgeCount, e.early, e.blanked, e.rejected, e.trailing]
    ++ optionalTicks e.firstTicks ++ optionalTicks e.lastTicks
    ++ ((e.trace.getD []).map (bytesOf 4)).flatten

/-- A cycle record (Table 11-9). -/
def recordBytes (r : CycleRecord) : List Byte :=
  bytesOf 4 r.number ++ bytesOf 2 r.run ++ bytesOf 2 r.index ++ [slotByte r.slot] ++ bytesOf 2 r.revision
    ++ [r.source.code] ++ bytesOf 6 r.stamp ++ bytesOf 2 r.divisor ++ bytesOf 4 r.windowLimit
    ++ [r.outcome.code, r.outcome.reasonCode] ++ bytesOf 4 r.closeTicks ++ [r.overlaps] ++ bytesOf 2 r.missedBefore
    ++ bytesOf 2 (r.lostBefore.getD 0) ++ [countByte r.entries.length] ++ (r.entries.map entryBytes).flatten

/-- One channel of the profile block (Table 11-6). -/
def channelFieldBytes (f : ChannelFields) : List Byte :=
  [f.stopEdge.code] ++ bytesOf 2 f.spacing ++ [f.quota] ++ bytesOf 2 f.blanking ++ [flagByte f.trace]

/-- The profile block, 102 bytes (Table 11-6). -/
def profileBlock (p : Profile) : List Byte :=
  bytesOf 2 p.channelSet ++ bytesOf 2 p.tickDivisor ++ bytesOf 4 p.windowLimit ++ [p.startSource.code, p.startEdge.code]
    ++ bytesOf 2 p.startSpacing ++ [p.overlap.code] ++ bytesOf 2 p.runLength ++ bytesOf 2 p.holdoff ++ [p.full.code]
    ++ (channels.map fun i => channelFieldBytes (p.chans.get i)).flatten

/-- The message code of an event report (Table 11-2). -/
def Event.code : Event → Byte
  | .runEnd _ _ _ => 0x41
  | .profileTaken _ _ _ => 0x42
  | .stall _ _ => 0x43
  | .loss _ _ _ => 0x44

/-- The fields of an event's kind (Table 11-7). -/
def Event.fields : Event → List Byte
  | .runEnd run reason done => bytesOf 2 run ++ [reason.code] ++ bytesOf 2 done
  | .profileTaken slot rev run => [slotByte slot] ++ bytesOf 2 rev ++ bytesOf 2 run
  | .stall left cycle => [flagByte left] ++ bytesOf 4 cycle
  | .loss cycle reason missed => bytesOf 4 cycle ++ [reason.code] ++ bytesOf 2 missed

/-- The payload of an event report (11.5). -/
def EventReport.payload (r : EventReport) : List Byte := bytesOf 6 r.created ++ [r.droppedBefore] ++ r.event.fields

/-- The code of a RESULT report (Table 11-2). -/
def resultReportCode : Byte := 0x40

/-- The thirteen statistics in the order of Table 8-2 (Table 11-5). -/
def LinkStats.bytes (s : LinkStats) : List Byte :=
  bytesOf 4 s.goodFrames ++ bytesOf 4 s.crcErrors ++ bytesOf 4 s.framingErrors ++ bytesOf 4 s.gapTimeouts
    ++ bytesOf 4 s.breaks ++ bytesOf 4 s.intakeOverflows ++ bytesOf 4 s.duplicatesCached
    ++ bytesOf 4 s.duplicatesInFlight ++ bytesOf 4 s.misdirected ++ bytesOf 4 s.strayAcks
    ++ bytesOf 4 s.retransmissions ++ bytesOf 4 s.suspensions ++ bytesOf 4 s.eventsDropped

/-- The IDENTIFY reply from offset 2 (R154, Table 11-5). -/
def identifyBody (l : HostLink) : List Byte :=
  littleEndian 2 0x0E4A ++ littleEndian 2 0x1204 ++ [0x01, 12, countByte Config.recordCapacity]
    ++ littleEndian 2 Config.entryCapacity ++ littleEndian 2 Config.traceCapacity
    ++ [countByte Config.intakeCapacity, countByte Config.cacheCapacity, countByte Config.windowCapacity,
      countByte Config.eventCapacity, 4, l.cause.code]
    ++ [(if l.baud0 then 0x01 else 0) ||| (if l.baud1 then 0x02 else 0)]

/-- The STATUS reply from offset 2 (R155, Table 11-5): absent fields are sent as zero (R171). DESIGN CHOICE, assumption 27:
R87 says that the run end reason can be read from this reply, for which neither R155 nor Table 11-5 has a field, so while a
reason is kept its code (R171, Table 11-8) follows the table's last field. -/
def statusBody (s : State) : List Byte :=
  let a := s.engine.active
  [s.engine.state.code] ++ bytesOf 2 s.engine.runNumber ++ bytesOf 2 s.engine.cyclesDone ++ [flagByte s.engine.stopRequest]
    ++ [(if a.isSome then 0x01 else 0) ||| (if s.store.selected.isSome then 0x02 else 0)]
    ++ bytesOf 2 ((a.map (·.profile.runLength)).getD 0) ++ [((a.map (slotByte ·.slot)).getD 0)]
    ++ bytesOf 2 ((a.map (·.revision)).getD 0) ++ [((s.store.selected.map slotByte).getD 0)]
    ++ bytesOf 4 s.engine.cycleCounter ++ bytesOf 2 s.engine.missed ++ bytesOf 2 s.inputs.rejectedStarts
    ++ [s.link.session.code, countByte s.queue.entries.length, flagByte s.engine.closeBuffer.isSome]
    ++ (s.engine.endReason.map (·.code)).toList

/-- The QUEUE STATUS reply from offset 2 (R127, Table 11-5). -/
def queueStatusBody (q : ResultQueue) (bufferOccupied : Bool) : List Byte :=
  [countByte q.entries.length, countByte (q.entries.filter (·.delivered)).length, countByte q.used.records]
    ++ littleEndian 2 q.used.entries ++ littleEndian 2 q.used.traces ++ [flagByte (!q.entries.isEmpty)]
    ++ bytesOf 4 ((q.entries.head?.map (·.record.number)).getD 0) ++ bytesOf 4 ((q.entries.getLast?.map (·.record.number)).getD 0)
    ++ bytesOf 2 q.pendingLoss ++ bytesOf 8 q.totalAdmitted ++ bytesOf 8 q.totalLost ++ [flagByte bufferOccupied]

/-- The PROFILE READ reply of a slot from offset 2 (R112, Table 11-5). -/
def slotBody (k : Fin 4) (slot : Slot) : List Byte :=
  [slot.code, slotByte k] ++ bytesOf 2 slot.revision ++ ((slot.contents.map profileBlock).getD [])

/-- The PROFILE READ reply of ACTIVE from offset 2 (R113): the state shows READY. -/
def activeBody (a : ActiveProfile) : List Byte :=
  [2, slotByte a.slot] ++ bytesOf 2 a.revision ++ profileBlock a.profile

end Sys2Proof.Machine
end

