-- ==== Sys2Proof/Machine/Link.lean ====
section
/-! DEFINITION. The Host Link's shared operations (Sections 8 to 10): the receive framer, the intake queue, the
report window, the event report queue, replies and the transmitter. -/

namespace Sys2Proof.Machine

/-- Base periods in one bit time at the rate in force (R13). -/
def HostLink.divisor (l : HostLink) : Nat := Config.bitDivisor l.baud1 l.baud0

/-- The gap timer's load: 32 character times (R139). -/
def HostLink.gapLoad (l : HostLink) : Nat := Config.gapCharacters * Config.characterBits * l.divisor

/-- The session parameters, while there are any (R151). -/
def Session.params : Session → Option SessionParams
  | .closed => none
  | .opened p => some p
  | .suspended p => some p

/-- The bit of the notify set that names an event's kind (R172). -/
def Event.kindBit : Event → Nat
  | .runEnd _ _ _ => 0
  | .profileTaken _ _ _ => 1
  | .stall _ _ => 2
  | .loss _ _ _ => 3

/-! ### Event reports -/

/-- Room for one more event report: from a full queue the oldest is given up, counted in the dropped count with
what it carried itself, and in the statistic (R162). -/
def makeEventRoom (l : HostLink) : HostLink :=
  match l.events with
  | [] => l
  | oldest :: rest =>
    if Config.eventCapacity ≤ l.events.length then
      { l with
        events := rest
        dropped := satAdd (satInc l.dropped) oldest.droppedBefore
        stats := { l.stats with eventsDropped := satInc l.stats.eventsDropped } }
    else l

/-- An event report is made and appended, taking the dropped count (R161, R162). -/
def appendEvent (stamp : Epoch) (e : Event) (l : HostLink) : HostLink :=
  let r := makeEventRoom l
  { r with events := r.events ++ [⟨stamp, r.dropped, e⟩], dropped := 0 }

/-- An event reaches the Host Link: a report is made of it while the session is OPEN or SUSPENDED and its kind is in
the notify set; otherwise it is let go (R161). -/
def postEvent (stamp : Epoch) (e : Event) (l : HostLink) : HostLink :=
  match l.session.params with
  | none => l
  | some p => if p.notify.getLsbD e.kindBit then appendEvent stamp e l else l

/-! ### Replies -/

/-- A reply joins the tail of the reply queue (R141). -/
def queueReply (r : QueuedReply) (l : HostLink) : HostLink := { l with replies := l.replies ++ [r] }

/-- A reply as built joins the reply queue and the reply cache, the oldest of five entries being forgotten
(R147, R148). -/
def completeReply (r : QueuedReply) (l : HostLink) : HostLink :=
  { queueReply r l with cache := keepLast Config.cacheCapacity (l.cache ++ [r.reply]) }

/-- A reply carries a request's sequence number and code (R148). -/
def Reply.answers (e : Reply) (r : Request) : Bool := decide (e.seq = r.seq) && decide (e.code = r.code)

/-- The cached reply of a request's sequence number and code (R148). -/
def HostLink.cached (l : HostLink) (r : Request) : Option Reply := l.cache.find? (·.answers r)

/-- The cached reply that a waiting request found when its frame was handed on (R174). -/
def HostLink.foundAtArrival (l : HostLink) (r : Request) : Option Reply := l.copies.find? (·.answers r)

/-! ### The report window -/

/-- The slot whose frame is on the TXD line (R168). -/
def Transmitter.reportOnLine : Transmitter → Option (Fin 4)
  | .chosen _ slot _ => some slot
  | .sending _ _ (.report slot) => some slot
  | .sending _ _ (.reply _) => none
  | .idle => none
  | .ended => none

/-- Resumption of one held slot: attempt count 1, and due unless its frame is on the line (R168). A slot that its
timer had made due before stays due by its timer (assumption 9). -/
def resumeReport (onLine : Option (Fin 4)) (h : HeldReport) : HeldReport :=
  if onLine = some h.slot then { h with attempts := 1 }
  else { h with attempts := 1, due := if h.due = .no then .byResume else h.due }

/-- A good REQUEST frame returns a SUSPENDED session to OPEN (R168). -/
def resumeSession (l : HostLink) : HostLink :=
  match l.session with
  | .suspended p =>
    { l with session := .opened p, window := l.window.map (resumeReport l.transmitter.reportOnLine) }
  | .opened _ => l
  | .closed => l

/-- The window and the event report queue emptied, the report sequence number and the dropped count 0 (R152, R153). -/
def emptyReports (l : HostLink) : HostLink := { l with window := [], events := [], dropped := 0, reportSeq := 0 }

/-- A report its timer has just made due, once the base period of the expiry has passed (R169). -/
def Due.settle : Due → Due
  | .no => .no
  | .justTimed => .byTimer
  | .byTimer => .byTimer
  | .byResume => .byResume

/-- Every report timer stops (R167). -/
def stopTimers (w : List HeldReport) : List HeldReport := w.map fun h => { h with timer := none }

/-- One held slot's timer has expired at an attempt count below 4: the report becomes due (R166). -/
def timeOutReport (slot : Fin 4) (h : HeldReport) : HeldReport :=
  if h.slot = slot then { h with attempts := h.attempts + 1, timer := none, due := .justTimed } else h

/-- The timer of a report loads when the last byte of its frame has left (R11, R163). -/
def loadTimer (slot : Fin 4) (load : Nat) (h : HeldReport) : HeldReport :=
  if h.slot = slot then { h with timer := some load } else h

/-! ### Arrival of frames -/

/-- The framer returns to HUNT with nothing gathered and the gap timer stopped. -/
def dropFrame (l : HostLink) : HostLink := { l with framer := .hunt, gapTimer := none }

/-- A framing error (R137). -/
def frameError (l : HostLink) : HostLink :=
  { dropFrame l with stats := { l.stats with framingErrors := satInc l.stats.framingErrors } }

/-- A CRC error (R138). -/
def checkError (l : HostLink) : HostLink :=
  { dropFrame l with stats := { l.stats with crcErrors := satInc l.stats.crcErrors } }

/-- A good frame is counted and leaves the framer (R138). -/
def goodFrame (l : HostLink) : HostLink :=
  { dropFrame l with stats := { l.stats with goodFrames := satInc l.stats.goodFrames } }

/-- A good frame of a class only the part may send (R138). -/
def misdirected (l : HostLink) : HostLink :=
  let g := goodFrame l
  { g with stats := { g.stats with misdirected := satInc g.stats.misdirected } }

/-- A request waits with the same sequence number and code, or is a DEVICE RESET taken and not yet in effect
(R146 step 1). -/
def HostLink.inFlight (l : HostLink) (r : Request) : Bool :=
  (l.intake.any fun w => decide (w.seq = r.seq) && decide (w.code = r.code))
    || (decide (l.resetTaken = some r.seq) && decide (r.code = 0x06))

/-- The intake queue's test of an arriving request (R146). One appended is kept with the reply it finds in the cache (R174). -/
def offerRequest (r : Request) (l : HostLink) : HostLink :=
  if l.inFlight r then { l with stats := { l.stats with duplicatesInFlight := satInc l.stats.duplicatesInFlight } }
  else if Config.intakeCapacity ≤ l.intake.length then
    { l with stats := { l.stats with intakeOverflows := satInc l.stats.intakeOverflows } }
  else { l with intake := l.intake ++ [r], copies := l.copies ++ (l.cached r).toList }

/-- A good REQUEST frame: counted, resuming a SUSPENDED session, then tested by the intake queue (R138, R146, R168). -/
def arriveRequest (r : Request) (l : HostLink) : HostLink := offerRequest r (resumeSession (goodFrame l))

/-- A LINK-ACK's sequence number is held in the window. -/
def HostLink.holdsReport (l : HostLink) (seq : Byte) : Bool := l.window.any fun h => decide (h.seq = seq)

/-- The frame of a report whose slot is freed in the base period in which its timer made it due, if the arbiter has
chosen it, does not begin, and is not counted (R169). -/
def recallChosen (seq : Byte) (l : HostLink) : HostLink :=
  match l.transmitter with
  | .chosen _ slot before =>
    if l.window.any fun h => decide (h.slot = slot) && decide (h.seq = seq) then
      { l with transmitter := .idle, stats := { l.stats with retransmissions := before } }
    else l
  | .idle => l
  | .sending _ _ _ => l
  | .ended => l

/-- A good LINK-ACK frees the slot that carries its sequence number, or is stray (R165). -/
def confirmReport (seq : Byte) (l : HostLink) : HostLink :=
  if l.holdsReport seq then
    let r := recallChosen seq l
    { r with window := r.window.filter fun h => !decide (h.seq = seq) }
  else { l with stats := { l.stats with strayAcks := satInc l.stats.strayAcks } }

/-- A good LINK-ACK frame (R138, R165). -/
def arriveAck (seq : Byte) (l : HostLink) : HostLink := confirmReport seq (goodFrame l)

/-- A complete frame at its test (R138): the check compared, then the frame dealt with by its class. -/
def testFrame (l : HostLink) : HostLink :=
  match l.framer with
  | .check h payload crc received =>
    if crc = received then
      match h.cls with
      | .request => arriveRequest ⟨h.seq, h.code, payload⟩ l
      | .linkAck => arriveAck h.seq l
      | .reply => misdirected l
      | .report => misdirected l
    else checkError l
  | .hunt => l
  | .header _ _ => l
  | .body _ _ _ _ => l

/-- A byte of a frame taken: the framer's next state, and the gap timer restarted (R139). -/
def frameGoesOn (f : Framer) (l : HostLink) : HostLink := { l with framer := f, gapTimer := some l.gapLoad }

/-- A header byte (R137): the tests on the class byte, the second length byte and the code byte. -/
def takeHeaderByte (got : List Byte) (crc : BitVec 16) (b : Byte) (l : HostLink) : HostLink :=
  match got with
  | [] => if (FrameClass.ofByte b).isSome then frameGoesOn (.header [b] (crcByte crc b)) l else frameError l
  | [c] => frameGoesOn (.header [c, b] (crcByte crc b)) l
  | [c, q] => frameGoesOn (.header [c, q, b] (crcByte crc b)) l
  | [c, q, low] =>
    let length := ofLittleEndian [low, b]
    if Config.maxPayload < length || (decide (FrameClass.ofByte c = some .linkAck) && !decide (length = 0)) then frameError l
    else frameGoesOn (.header [c, q, low, b] (crcByte crc b)) l
  | c :: q :: low :: high :: _ =>
    match FrameClass.ofByte c with
    | none => frameError l
    | some cls =>
      if decide (cls = .linkAck) && !decide (b = 0) then frameError l
      else frameGoesOn (.body ⟨cls, q, BitVec.ofNat 16 (ofLittleEndian [low, high]), b⟩ [] none (crcByte crc b)) l

/-- A payload or check byte (R138). The last check byte brings the frame to its test. -/
def takeBodyByte (h : Header) (payload : List Byte) (checkLow : Option Byte) (crc : BitVec 16) (b : Byte)
    (l : HostLink) : HostLink :=
  if payload.length < h.length.toNat then frameGoesOn (.body h (payload ++ [b]) none (crcByte crc b)) l
  else
    match checkLow with
    | none => frameGoesOn (.body h payload (some b) crc) l
    | some low =>
      testFrame { l with framer := .check h payload crc (BitVec.ofNat 16 (ofLittleEndian [low, b])), gapTimer := none }

/-- A byte reaches the receive framer (Figure 8-1). -/
def takeByte (b : Byte) (l : HostLink) : HostLink :=
  match l.framer with
  | .hunt => if b = delimiter then frameGoesOn (.header [] crcStart) l else l
  | .header got crc => takeHeaderByte got crc b l
  | .body h payload checkLow crc => takeBodyByte h payload checkLow crc b l
  | .check _ _ _ _ => l

/-- A bad character reaches the receive framer (Figure 8-1). -/
def takeBadCharacter (l : HostLink) : HostLink :=
  match l.framer with
  | .hunt => l
  | .header _ _ => frameError l
  | .body _ _ _ _ => frameError l
  | .check _ _ _ _ => l

/-- The framer is inside a frame: HEADER or BODY (R139). -/
def Framer.inFrame : Framer → Bool
  | .hunt => false
  | .header _ _ => true
  | .body _ _ _ _ => true
  | .check _ _ _ _ => false

/-- A break is found (R140). -/
def breakFound (l : HostLink) : HostLink :=
  { dropFrame l with
    intake := []
    copies := []
    receiver := .waiting false
    stats := { l.stats with breaks := satInc l.stats.breaks } }

/-! ### Character receiver and transmitter -/

/-- The receiver waits and has not yet sampled the line high: no start bit can be recognised (R132). -/
def Receiver.awaitsHigh : Receiver → Bool
  | .waiting high => !high
  | .restarted => true
  | .character _ _ => false
  | .held _ => false

/-- A character can complete in this base period: one cannot while the receiver waits for the line to go high, but
in the base period of a request reset it still can (R132, R158). -/
def Receiver.mayComplete : Receiver → Bool
  | .waiting high => high
  | .restarted => true
  | .character _ _ => true
  | .held _ => true

/-- The receiver after a character has completed with its stop bit high: waiting for the next start bit (R132). -/
def Receiver.completed : Receiver → Receiver
  | .restarted => .restarted
  | .waiting _ => .waiting true
  | .character _ _ => .waiting true
  | .held _ => .waiting true

/-- The byte whose bits, least significant first, are given (R131). -/
def byteOfBits (bits : List Bool) : Byte := BitVec.ofNat 8 (bits.foldr (fun b n => b.toNat + 2 * n) 0)

/-- The character receiver after RXD is sampled once more, and what it found (R132). Bits are sampled at their
middles: half the divisor, rounded down, after each begins. A low of two character times is a break whatever the level
sampled when they have passed (R13, assumption 15). The two character times are counted from the beginning of the start bit,
as R132 and R140 have it, whatever the data bits were: a character with high data bits, whose stop bit is low and after it the
line, makes a break although the line itself has been low for less than the two character times of R13 (DEDUCED, assumption
15). After a reset or a break, the line counts as sampled high from the
first base period after it that samples it high (assumption 17). -/
def sampleReceiver (divisor : Nat) (high : Bool) : Receiver → Receiver × List Instr
  | .waiting false => (.waiting false, if high then [.receiveLineHighAgain] else [])
  | .restarted => (.waiting false, if high then [.receiveLineHighAgain] else [])
  | .waiting true => if high then (.waiting true, []) else (.character 0 [], [])
  | .character age bits =>
    let age' := age + 1
    if age' = divisor / 2 then
      if high then (.waiting true, []) else (.character age' bits, [])
    else if age' = (bits.length + 1) * divisor + divisor / 2 then
      if bits.length < 8 then (.character age' (bits ++ [high]), [])
      else if high then (.waiting true, [.byteReceived (byteOfBits bits)])
      else (.held age', [])
    else (.character age' bits, [])
  | .held age =>
    let age' := age + 1
    if 2 * Config.characterBits * divisor ≤ age' then (.held age', [.lineBreak])
    else if high then (.waiting true, [.framingError .badCharacter])
    else (.held age', [])

/-- The transmitter begins a frame at once (R142). -/
def beginFrame (frame : List Byte) (source : FrameSource) (l : HostLink) : HostLink :=
  { l with transmitter := .sending frame (frameSpan l.divisor frame) source }

/-- The transmitter after one more base period (R133), at a bit divisor. A frame chosen in the base period that ends has
begun in it (R142, R169). -/
def Transmitter.tick (divisor : Nat) : Transmitter → Transmitter
  | .idle => .idle
  | .chosen f slot _ => .sending f (frameSpan divisor f - 1) (.report slot)
  | .sending f left src => .sending f (left - 1) src
  | .ended => .idle

/-- The level of the `n`-th bit of a character: start bit low, data bits least significant first, stop bit high (R131). -/
def characterLevel (b : Byte) (n : Nat) : Bool :=
  if n = 0 then false else if n ≤ 8 then b.getLsbD (n - 1) else true

/-- The level of TXD (R133). -/
def State.txd (s : State) : Bool :=
  match s.link.transmitter with
  | .idle => true
  | .chosen _ _ _ => false
  | .ended => true
  | .sending frame left _ =>
    let bit := (frameSpan s.link.divisor frame - left) / s.link.divisor
    characterLevel (frame.getD (bit / Config.characterBits) 0) (bit % Config.characterBits)

/-- The Host Link after one more base period: the timers that run, the transmitter and the character receiver. -/
def tickLink (rxd : Bool) (l : HostLink) : HostLink × List Instr :=
  let r := sampleReceiver l.divisor rxd l.receiver
  ({ l with
      receiver := r.1
      gapTimer := timerTick l.gapTimer
      transmitter := l.transmitter.tick l.divisor
      window := l.window.map fun h => { h with timer := timerTick h.timer, due := h.due.settle } }, r.2)

end Sys2Proof.Machine
end

