-- ==== Sys2Proof/Machine/Ops.lean ====
section
/-! DEFINITION. The Cycle Engine's shared operations (Sections 3 and 5): taking a start, closing a cycle, admission,
the after-close sequence, arming boundaries and the end of a run; and the taking of a request (Section 9). -/

namespace Sys2Proof.Machine

/-- Events happen: REFCLK runs and RESET_N is not held low (R1, R156). -/
def State.live (s : State) : Bool := s.pins.refclk && !s.held

/-- The epoch value of the current base period. -/
def State.now (s : State) : Epoch := s.time.epoch

/-- An event is passed to the Host Link with the stamp of this base period (R12). -/
def State.post (e : Event) (s : State) : State := { s with link := postEvent s.now e s.link }

/-- The active profile, or, where there is none, the defaults, which nothing then reads: without an active profile
the engine is IDLE (R110). -/
def Engine.governing (e : Engine) : ActiveProfile := e.active.getD ⟨0, 0, Profile.default⟩

/-- The contents that govern measurement. -/
def State.profile (s : State) : Profile := s.engine.governing.profile

/-! ### Starts -/

/-- The start source of the active profile accepts a start event of this form (Table 3-2). -/
def StartSource.accepts : StartSource → StartTaken → Bool
  | .external, .external => true
  | .host, .host => true
  | .either, .external => true
  | .either, .host => true
  | .external, .host => false
  | .host, .external => false
  | .immediate, .external => false
  | .immediate, .host => false
  | .external, .immediate => false
  | .host, .immediate => false
  | .either, .immediate => false
  | .immediate, .immediate => false

/-- The open cycle a start taken now latches (Table 3-4, R29, R81). -/
def latchCycle (src : StartTaken) (s : State) : OpenCycle where
  number := s.engine.cycleCounter + 1
  run := s.engine.runNumber
  index := satInc s.engine.cyclesDone
  slot := s.engine.governing.slot
  revision := s.engine.governing.revision
  source := src
  stamp := s.now
  divisor := s.profile.tickDivisor
  windowLimit := s.profile.windowLimit
  channelSet := s.profile.channelSet

/-- Taking a start (R32): all of it but what the units do. -/
def openCycle (src : StartTaken) (s : State) : State :=
  { s with
    time := { s.time with tickRunning := true, phase := 0, elapsed := 0, counting := true }
    inputs := clearStopFilters s.inputs
    engine := { s.engine with
      state := .measuring
      cycleCounter := s.engine.cycleCounter + 1
      cycle := some (latchCycle src s)
      overlaps := 0 } }

/-- A start taken in ARMED (R32): the units of the set leave PRIMED (R61). -/
def takeStart (src : StartTaken) (s : State) : State :=
  { openCycle src s with units := startUnits s.profile s.units }

/-- A restarting start taken (R35): the units of the set leave their concluded states with no early edges (R63). -/
def takeRestart (src : StartTaken) (s : State) : State :=
  { openCycle src s with units := restartUnits s.profile s.units }

/-! ### Runs -/

/-- Events passed to the Host Link, in the order given, with the stamp of this base period (R12). -/
def passAll (events : List Event) (s : State) : State :=
  { s with link := events.foldl (fun l e => postEvent s.now e l) s.link }

/-- What the Cycle Engine does in a sequence of its own: the state it leaves, its events not yet passed, and the events it
passes to the Host Link, in order. No step of a sequence reads what passing an event changes. -/
structure EngineSequence where
  state : State
  events : List Event
  deriving DecidableEq, Repr

/-- A sequence carried out with its events passed. -/
def EngineSequence.run (q : EngineSequence) : State := passAll q.events q.state

/-- A run begins: its number, no cycles done, the stop request flag clear (R80, R81, R82), and the last run's reason no
longer to be told (R87). -/
def beginRun (s : State) : State :=
  { s with engine := { s.engine with
    runNumber := wrapToOne s.engine.runNumber, cyclesDone := 0, stopRequest := false, endReason := none } }

/-- The RUN_END of the present run (R87, Table 10-1). -/
def runEndEvent (reason : RunEndReason) (s : State) : Event :=
  .runEnd s.engine.runNumber reason s.engine.cyclesDone

/-- The engine leaves its run (R87): the flag cleared, the holdoff timer stopped, the engine to IDLE and every unit to OFF
(R59). -/
def leaveRun (reason : RunEndReason) (s : State) : State :=
  { s with
    engine := { s.engine with
      state := .idle, stopRequest := false, holdoffTimer := none, endReason := some reason }
    units := Twelve.all ChannelUnit.offUnit }

/-- The end of a run as a sequence (R87). -/
def runEndSequence (reason : RunEndReason) (s : State) : EngineSequence :=
  ⟨leaveRun reason s, [runEndEvent reason s]⟩

/-- The end of a run (R87), its RUN_END passed. -/
def endRun (reason : RunEndReason) (s : State) : State := (runEndSequence reason s).run

/-- A slot's contents become the active profile, the lines are reconditioned, and no selection is pending
(R109, R105). The PROFILE_TAKEN event is passed by the caller, in the order its rule gives. -/
def loadProfile (k : Fin 4) (rev : BitVec 16) (p : Profile) (s : State) : State :=
  { s with
    engine := { s.engine with active := some ⟨k, rev, p⟩ }
    inputs := recondition p s.inputs
    store := { s.store with selected := none } }

/-- The pending slot with its revision and contents: the pending selection names a READY slot (R105). -/
def State.pendingProfile (s : State) : Option (Fin 4 × BitVec 16 × Profile) :=
  match s.store.selected with
  | none => none
  | some k =>
    match s.store.slots.get k with
    | .ready rev p => some (k, rev, p)
    | .draft _ _ => none
    | .empty => none

/-- An edge reaches a unit, at the given elapsed tick count (R7, R24). -/
def unitEdge (accepted : Bool) (elapsed : Ticks) (u : ChannelUnit) : ChannelUnit :=
  if accepted then qualifiedEdge elapsed u else rejectedEdge u

/-- The judged edges of a channel that wait for its unit. -/
def Sampling.unitEdges (m : Sampling) (i : Channel) : List HeldEdge :=
  m.judged.filter fun e => decide (e.line = .stop i)

/-- A stop edge of this base period waits, to be judged or to reach its unit. -/
def Sampling.stopsWait (m : Sampling) : Bool :=
  channels.any fun i => decide (.stop i ∈ m.unjudged) || !(m.unitEdges i).isEmpty

/-- The stop line of a channel is judged now: its transition waits, and the free value picks it. -/
def State.judgesNow (s : State) (i : Channel) : Bool :=
  decide (.stop i ∈ s.sampled.unjudged) && inSet (Config.edgesJudged s.choices) i

/-- Some of the stop transitions that wait are judged (R21, R22). -/
def judgeSome (s : State) : State :=
  { s with
    inputs := { s.inputs with
      stops := Twelve.ofFn fun i =>
        if s.judgesNow i then (judgeTransition (s.inputs.stops.get i) s.now).1 else s.inputs.stops.get i }
    sampled := { s.sampled with
      unjudged := s.sampled.unjudged.filter fun line => !channels.any fun i => s.judgesNow i && decide (line = .stop i)
      judged := s.sampled.judged ++ (channels.filter s.judgesNow).flatMap fun i =>
        heldEdges (.stop i) (s.inputs.stops.get i).level (judgeTransition (s.inputs.stops.get i) s.now).2 } }

/-- Some of the stop edges judged reach their units (R24). No cycle is open there, so no conclusion follows. -/
def receiveSome (s : State) : State :=
  let received := inSet (Config.edgesReceived s.choices)
  { s with
    units := Twelve.ofFn fun i =>
      if received i then
        (s.sampled.unitEdges i).foldl (fun u e => unitEdge e.accepted s.time.elapsed u) (s.units.get i)
      else s.units.get i
    sampled := { s.sampled with
      judged := s.sampled.judged.filter fun e => !channels.any fun i => received i && decide (e.line = .stop i) } }

/-- A moment inside the entry to ARMED at which stop edges of the same base period can be judged and can reach their
units (R21, R22, R76, R78): of those that wait, the free values pick some. -/
def edgesWithin (s : State) : State :=
  if s.sampled.stopsWait then
    let r := receiveSome (judgeSome s)
    { r with choices := r.choices + 1 }
  else s

/-- The engine goes to ARMED, the units of the set to PRIMED and the others to OFF (R58). -/
def armEngine (s : State) : State :=
  { s with
    engine := { s.engine with state := .armed, holdoffTimer := none }
    units := armUnits s.profile.channelSet s.units }

/-- Entry to ARMED: the units are primed, and under IMMEDIATE the engine then takes a start of its own (R31, R58).
Stop edges of the same base period can fall before the entry, while the units are in their previous states, and between
the entry and the start, while they are PRIMED (R76, R78). -/
def enterArmed (s : State) : State :=
  let a := armEngine (edgesWithin s)
  if s.profile.startSource = .immediate then takeStart .immediate (edgesWithin a) else a

/-- An arming boundary reached from HOLDOFF or from the after-close sequence, as a sequence (R84): a pending selection is
taken, superseding the run, RUN_END before PROFILE_TAKEN; then ARMED is entered. -/
def boundarySequence (s : State) : EngineSequence :=
  match s.pendingProfile with
  | none => ⟨enterArmed s, []⟩
  | some (k, rev, p) =>
    let r := beginRun (loadProfile k rev p s)
    ⟨enterArmed r, [runEndEvent .superseded s, .profileTaken k rev r.engine.runNumber]⟩

/-- An arming boundary (R84), its events passed. -/
def armingBoundary (s : State) : State := (boundarySequence s).run

/-- The after-close sequence (R86), once the closed record has been admitted or discarded. A restarting start stands
in `restart` (R35). -/
def afterCloseSequence (outcome : CycleOutcome) (restart : Option StartTaken) (s : State) : EngineSequence :=
  let c := { s with engine := { s.engine with cyclesDone := satInc s.engine.cyclesDone } }
  if c.engine.stopRequest then
    runEndSequence (if outcome = .aborted .host then .aborted else .disarmed) c
  else if c.profile.runLength ≠ 0 ∧ c.engine.cyclesDone = c.profile.runLength then runEndSequence .complete c
  else
    match restart with
    | some src => ⟨takeRestart src c, []⟩
    | none =>
      if c.profile.holdoff ≠ 0 then
        ⟨{ c with engine := { c.engine with
          state := .holdoff
          holdoffTimer := some (Config.holdoffUnit * c.profile.holdoff.toNat) } }, []⟩
      else boundarySequence c

/-- The after-close sequence, its events passed. -/
def afterClose (outcome : CycleOutcome) (restart : Option StartTaken) (s : State) : State :=
  (afterCloseSequence outcome restart s).run

/-! ### Closing a cycle -/

/-- How a cycle ends (3.6). -/
inductive Ending where
  /-- Its last unconcluded unit concluded DONE (R40). -/
  | concluded
  /-- The window expired (R41). -/
  | expired
  /-- An ABORT request or a restarting start cut it short (R35, R51). -/
  | cut (reason : AbortReason)
  deriving DecidableEq, Repr

/-- What an ending does to the units beforehand (R40, R69, R70). -/
def Ending.conclude : Ending → ChannelUnit → ChannelUnit
  | .concluded, u => u
  | .expired, u => concludeUnit .overrun u
  | .cut _, u => concludeUnit .aborted u

/-- The outcome of a cycle (R43). -/
def Ending.outcome (e : Ending) (set : ChannelSet) (units : Twelve ChannelUnit) : CycleOutcome :=
  match e with
  | .cut reason => .aborted reason
  | .concluded => if allUnits set units fun u => decide (u.state = .done) then .complete else .partly
  | .expired => if allUnits set units fun u => decide (u.state = .done) then .complete else .partly

/-- The record built at a close, from the units as concluded (R42, R44), with its cost and creation stamp. -/
def buildRecord (e : Ending) (oc : OpenCycle) (s : State) : ClosedRecord where
  record := {
    number := oc.number
    run := oc.run
    index := oc.index
    slot := oc.slot
    revision := oc.revision
    source := oc.source
    stamp := oc.stamp
    divisor := oc.divisor
    windowLimit := oc.windowLimit
    outcome := e.outcome oc.channelSet s.units
    closeTicks := s.time.elapsed
    overlaps := s.engine.overlaps
    missedBefore := s.engine.missed
    lostBefore := none
    entries := (setMembers oc.channelSet).map fun i => channelEntry i (s.units.get i) }
  cost := recordCost oc.channelSet s.units
  created := s.now

/-- The close as it leaves the part before admission (R42): counters stopped, the missed-start count moved into the
record, no cycle open, the units' cycle no longer open. -/
def stopCycle (oc : OpenCycle) (s : State) : State :=
  { s with
    time := { s.time with tickRunning := false, counting := false }
    engine := { s.engine with cycle := none, missed := 0 }
    units := mapUnits oc.channelSet closeUnit s.units }

/-- A record refused under HOLD waits in the close buffer, the engine STALLED (R45); a restarting start is then
missed (R36). -/
def stallWith (r : ClosedRecord) (restart : Option StartTaken) (s : State) : State :=
  let p := s.post (.stall false r.record.number)
  { p with engine := { s.engine with
      state := .stalled
      closeBuffer := some r
      missed := if restart.isSome then satInc s.engine.missed else s.engine.missed } }

/-- An event of another block entering among the events of a sequence, which keep their order (R161): after as many of them
as `place` says, modulo their number plus 1. -/
def enterAmong (place : Nat) (other : Event) (events : List Event) : List Event :=
  match events with
  | [] => [other]
  | _ :: rest =>
    let n := place % (rest.length + 2)
    events.take n ++ other :: events.drop n

/-- The record of a close discarded (R118): counted lost, and the after-close sequence follows. The LOSS of the Result Queue
enters before, among or after the events the Cycle Engine passes in that sequence, which R161 leaves open: its place is a
free value (assumption 25). -/
def discardRecord (r : ClosedRecord) (restart : Option StartTaken) (s : State) : State :=
  let q := afterCloseSequence r.record.outcome restart { s with queue := countLoss s.queue }
  passAll (enterAmong (Config.lossPlace q.state.choices) (.loss r.record.number .full r.record.missedBefore) q.events)
    { q.state with choices := q.state.choices + 1 }

/-- Admission asked at a close, with the three answers of the Result Queue (R45, R116, R117, R118). -/
def requestAdmission (r : ClosedRecord) (restart : Option StartTaken) (s : State) : State :=
  if s.queue.fits r then afterClose r.record.outcome restart { s with queue := admitRecord r s.queue }
  else
    match s.profile.full with
    | .hold => stallWith r restart s
    | .discard => discardRecord r restart s

/-- Closing the open cycle (R42): its units concluded as the ending says, the record built, the counters stopped,
admission asked. With no cycle open nothing closes. -/
def closeCycle (e : Ending) (restart : Option StartTaken) (s : State) : State :=
  match s.engine.cycle with
  | none => s
  | some oc =>
    let c := { s with units := mapUnits oc.channelSet e.conclude s.units }
    requestAdmission (buildRecord e oc c) restart (stopCycle oc c)

/-- Every unit of the open cycle's set has concluded (R40). -/
def State.allConcluded (s : State) : Bool :=
  match s.engine.cycle with
  | none => false
  | some oc => allUnits oc.channelSet s.units fun u => u.state.concluded

/-- A start missed (R37). -/
def missStart (s : State) : State := { s with engine := { s.engine with missed := satInc s.engine.missed } }

/-- A start counted as an overlap of the open cycle (R34). -/
def countOverlap (s : State) : State :=
  { s with engine := { s.engine with overlaps := satInc s.engine.overlaps } }

/-- A start event reaches the engine (Table 3-3). -/
def startEvent (src : StartTaken) (s : State) : State :=
  if s.profile.startSource.accepts src then
    match s.engine.state with
    | .idle => s
    | .armed => takeStart src s
    | .measuring =>
      match s.profile.overlap with
      | .ignore => countOverlap s
      | .restart => closeCycle (.cut .restart) (some src) s
    | .stalled => missStart s
    | .holdoff => missStart s
  else s

/-- An admission offer to the held record, made when the queue has freed space (R47, R122). -/
def offerHeld (s : State) : State :=
  match s.engine.closeBuffer with
  | none => s
  | some r =>
    if s.queue.fits r then
      let p := s.post (.stall true r.record.number)
      afterClose r.record.outcome none
        { p with queue := admitRecord r s.queue, engine := { s.engine with closeBuffer := none } }
    else s

/-! ### Taking a request -/

/-- What a request is answered with (R149). -/
structure Answer where
  status : Status
  detail : Byte
  body : List Byte
  deriving DecidableEq, Repr

/-- An answer of OK with its payload. -/
def Answer.okWith (body : List Byte) : Answer := ⟨.ok, 0, body⟩

/-- A refusal without detail. -/
def Answer.refuse (st : Status) : Answer := ⟨st, 0, []⟩

/-- A refusal with RANGE, the detail naming the field. -/
def Answer.range (field : Byte) : Answer := ⟨.range, field, []⟩

/-- The reply to a request. -/
def Answer.reply (a : Answer) (r : Request) : Reply := ⟨r.seq, r.code, a.status, a.detail, a.body⟩

/-- A request may be taken: the part lives, the reply queue has room, no DEVICE RESET has been taken, and the request
before it is complete, a LINK STATS when it has cleared the statistics (R145, R147). -/
def State.canTake (s : State) : Bool :=
  s.live && decide (s.link.replies.length < Config.replyCapacity) && s.link.resetTaken.isNone && !s.link.clearDue

/-- The head of the intake queue, taken (R147). -/
def popIntake (s : State) : State := { s with link := { s.link with intake := s.link.intake.tail } }

/-- A request about to be taken no longer waits with the reply its frame found (R174). -/
def forgetCopy (r : Request) (s : State) : State :=
  { s with link := { s.link with copies := s.link.copies.filter fun e => !e.answers r } }

/-- A request answered from the reply cache (R147): an ordinary reply, with no new entry (R143, R148). -/
def answerFromCache (r : Reply) (s : State) : State :=
  let q := queueReply ⟨r, false⟩ s.link
  { s with link := { q with stats := { q.stats with duplicatesCached := satInc q.stats.duplicatesCached } } }

/-- A request completed with an answer (R147, R148). -/
def completeWith (r : Request) (a : Answer) (s : State) : State :=
  { s with link := completeReply ⟨a.reply r, false⟩ s.link }

end Sys2Proof.Machine
end

