-- ==== Sys2Proof/Machine/Arbiter.lean ====
section
/-! DEFINITION. The transmit arbiter (Sections 8.5 and 10.4): the choice of the next frame. -/

namespace Sys2Proof.Machine

/-- The oldest reply in the reply queue, begun (R142 first choice). -/
def nextReply (s : State) : Option State :=
  match s.link.replies with
  | [] => none
  | r :: rest =>
    some { s with link := beginFrame (replyFrame r.reply) (.reply r.resets) { s.link with replies := rest } }

/-- A due report waits to be sent again. -/
def HeldReport.isDue (h : HeldReport) : Bool := !decide (h.due = .no)

/-- One report's due mark taken off as its retransmission begins (R166). -/
def clearDue (slot : Fin 4) (h : HeldReport) : HeldReport := if h.slot = slot then { h with due := .no } else h

/-- The statistics with one more report retransmission (R166). -/
def countResend (l : HostLink) : HostLink :=
  { l with stats := { l.stats with retransmissions := satInc l.stats.retransmissions } }

/-- A due report begun again (R142, R166): counted when its timer made it due, and not when a resumption did (R168). One
that its timer made due in this base period can still be removed by a LINK-ACK (R169, assumption 26). -/
def resend (h : HeldReport) (l : HostLink) : HostLink :=
  let c := { l with window := l.window.map (clearDue h.slot) }
  match h.due with
  | .no => l
  | .justTimed => { countResend c with transmitter := .chosen h.frame h.slot l.stats.retransmissions }
  | .byTimer => beginFrame h.frame (.report h.slot) (countResend c)
  | .byResume => beginFrame h.frame (.report h.slot) c

/-- The due report first sent earliest, begun again (R142 second choice). -/
def nextRetransmission (s : State) : Option State :=
  (s.link.window.find? HeldReport.isDue).map fun h => { s with link := resend h s.link }

/-- A free slot of the window: the lowest-numbered one. -/
def freeSlot (w : List HeldReport) : Fin 4 :=
  (([0, 1, 2, 3] : List (Fin 4)).find? fun k => !w.any fun h => decide (h.slot = k)).getD 0

/-- A report copied into a free slot under the next sequence number, and begun (R163). -/
def beginReport (code : Byte) (payload : List Byte) (l : HostLink) : HostLink :=
  let frame := frameBytes .report l.reportSeq code payload
  let slot := freeSlot l.window
  beginFrame frame (.report slot)
    { l with window := l.window ++ [⟨slot, frame, l.reportSeq, 1, none, .no⟩], reportSeq := l.reportSeq + 1 }

/-- The event report at the head of its queue, taken as a new report (R163). -/
def takeEventReport (s : State) : Option State :=
  match s.link.events with
  | [] => none
  | e :: rest => some { s with link := beginReport e.event.code e.payload { s.link with events := rest } }

/-- A record taken as a new RESULT report, which marks it delivered (R123, R163). -/
def takeRecordReport (n : Nat) (s : State) : Option State :=
  match s.queue.at n with
  | none => none
  | some e =>
    some { s with
      queue := markDelivered n s.queue
      link := beginReport resultReportCode (recordBytes e.record) s.link }

/-- In PUSH delivery, the position and the creation stamp of the oldest undelivered record (R164). -/
def recordCandidate (p : SessionParams) (s : State) : Option (Nat × Epoch) :=
  match p.mode with
  | .pull => none
  | .push =>
    match s.queue.oldestUndelivered with
    | none => none
    | some n => (s.queue.at n).map fun e => (n, e.created)

/-- A new report (R164): of two candidates the one with the earlier stamp, and the record where neither is earlier. -/
def nextNewReport (p : SessionParams) (s : State) : Option State :=
  if s.link.window.length < Config.windowCapacity then
    match s.link.events.head?, recordCandidate p s with
    | none, none => none
    | some _, none => takeEventReport s
    | none, some (n, _) => takeRecordReport n s
    | some e, some (n, created) => if stampEarlier e.created created then takeEventReport s else takeRecordReport n s
  else none

/-- The reports the arbiter may choose: none unless the session is OPEN, and none once the reply to a DEVICE RESET is
in the reply queue (R142, R143). -/
def nextReport (s : State) : Option State :=
  match s.link.session with
  | .opened p =>
    if s.link.resetTaken.isSome then none
    else
      match nextRetransmission s with
      | some t => some t
      | none => nextNewReport p s
  | .closed => none
  | .suspended _ => none

/-- The arbiter's choice (R142), made when the transmitter is idle and there is work: none where there is not. After a RESULT
READ or a RESULT ACK taken first (R130), the reply it has completed goes before any report, so that the record or the
next one is considered at a later choice (DEDUCED, assumption 29). -/
def arbiterChoice (s : State) : Option State :=
  if s.live && decide (s.link.transmitter = .idle) then
    match nextReply s with
    | some t => some t
    | none => nextReport s
  else none

end Sys2Proof.Machine
end

