-- ==== Sys2Proof/Machine/Lines.lean ====
section
/-! DEFINITION. Transitions on the measurement inputs (Sections 2 to 4): START_TRANSITION, STOP_TRANSITION and
FILTER_LAPSE. A transition is sampled, judged and received, in this order and in one base period; the steps between
which other events of the base period may fall are held in State.sampled. -/

namespace Sys2Proof.Machine

/-- A line's level changes while nothing samples it: the pin alone changes (R1, R14, R156). -/
def changeUnsampled (line : Line) (s : State) : State :=
  { s with pins := s.pins.setLine line (!s.pins.lineLevel line) }

/-! ### Receivers (Table 2-2) -/

/-- A rejected START edge is counted (R27). -/
def rejectStart (s : State) : State :=
  { s with inputs := { s.inputs with rejectedStarts := satInc s.inputs.rejectedStarts } }

/-- A qualified stop edge reaches its unit, whose conclusion DONE closes the cycle when it is the last of the set
(R24, R40, R65). The edge's time is the elapsed tick counter (R7). -/
def qualifiedStop (ch : Channel) (s : State) : State :=
  let u := s.units.get ch
  let u' := qualifiedEdge s.time.elapsed u
  let t := { s with units := s.units.set ch u' }
  if u.state ≠ .done ∧ u'.state = .done ∧ s.engine.state = .measuring ∧ t.allConcluded then closeCycle .concluded none t
  else t

/-- A rejected stop edge reaches its unit (R24, R68). -/
def rejectedStop (ch : Channel) (s : State) : State :=
  { s with units := s.units.set ch (rejectedEdge (s.units.get ch)) }

/-- A judged edge reaches its receiver: a qualified START edge is a start event of source EXTERNAL (R23), a rejected one
is counted (R27), and a stop edge of either kind goes to its unit (R24). -/
def deliverEdge (e : HeldEdge) (s : State) : State :=
  match e.line with
  | .start => if e.accepted then startEvent .external s else rejectStart s
  | .stop ch => if e.accepted then qualifiedStop ch s else rejectedStop ch s

/-! ### Sampling, judging, receiving -/

/-- A line is sampled at its new level, which the outside holds at the pin (R3, R14): its one transition of this base
period. -/
def moveLine (line : Line) (s : State) : State :=
  let l := flipLevel (s.inputs.line line)
  { s with
    pins := s.pins.setLine line l.level
    inputs := s.inputs.setLine line l
    sampled := { s.sampled with moved := s.sampled.moved ++ [line] } }

/-- The event the Input Conditioner makes of a line's transition, the line being at its new level (R16, R17). -/
def State.judges (s : State) (line : Line) : List HeldEdge :=
  heldEdges line (s.inputs.line line).level (judgeTransition (s.inputs.line line) s.now).2

/-- A line's transition is judged: its filter state after (R18). -/
def judgeLine (line : Line) (s : State) : State :=
  { s with inputs := s.inputs.setLine line (judgeTransition (s.inputs.line line) s.now).1 }

/-- A line's transition is judged, and the event it makes is on its way to its receiver. -/
def holdEdge (line : Line) (s : State) : State :=
  let t := judgeLine line s
  { t with sampled := { t.sampled with judged := t.sampled.judged ++ s.judges line } }

/-- A line's transition is judged, and the event it makes is received at once. -/
def passEdge (line : Line) (s : State) : State :=
  (s.judges line).foldl (fun t e => deliverEdge e t) (judgeLine line s)

/-- A transition that sampling found is judged (R17): the part's own taking. -/
def judgeFound (line : Line) (s : State) : State :=
  holdEdge line { s with sampled := { s.sampled with unjudged := s.sampled.unjudged.erase line } }

/-- A judged edge is received (R23, R24): the part's own taking. -/
def receiveEdge (e : HeldEdge) (s : State) : State :=
  deliverEdge e { s with sampled := { s.sampled with judged := s.sampled.judged.erase e } }

/-- A transition of a line, taken as far as the commands of this base period take theirs (assumption 3). A line makes one
transition in a base period (R3), so a second has no effect (assumption 14). -/
def takeTransition (line : Line) (s : State) : State :=
  if s.live then
    if line ∈ s.sampled.moved then s
    else
      let m := moveLine line s
      match s.taking with
      | .whole => passEdge line m
      | .judged => holdEdge line m
      | .sampled => { m with sampled := { m.sampled with unjudged := m.sampled.unjudged ++ [line] } }
  else changeUnsampled line s

/-- A held epoch lapses (R18). -/
def lapseLine (line : Line) (s : State) : State :=
  if s.live then { s with inputs := s.inputs.setLine line (lapseFilter (s.inputs.line line) s.now) } else s

/-- START_TRANSITION. -/
def execStartTransition (s : State) : Host.Outcome State Fault Refusal := .next (takeTransition .start s)

/-- STOP_TRANSITION. -/
def execStopTransition (ch : Channel) (s : State) : Host.Outcome State Fault Refusal :=
  .next (takeTransition (.stop ch) s)

/-- FILTER_LAPSE. -/
def execFilterLapse (line : Line) (s : State) : Host.Outcome State Fault Refusal := .next (lapseLine line s)

end Sys2Proof.Machine
end

