-- ==== Sys2Proof/Machine/Operands.lean ====
section
/-! DEFINITION. The payloads of requests (Section 11.3): allowed lengths, tagged fields and their ranges, slot and
channel numbers; the common checks (R150); and a request taken from the head of the intake queue (R147). -/

namespace Sys2Proof.Machine

/-- One tagged field: its tag and its four-byte value (R173). -/
abbrev TaggedField := Byte × BitVec 32

/-- A tag byte that cannot begin a tagged field (R173). -/
def badTag (tag : Byte) : Bool := decide (tag = 0) || decide (0xF0 ≤ tag.toNat)

/-- A payload divided into tagged fields of five bytes, or none where it cannot be (R173). -/
def taggedFields : List Byte → Option (List TaggedField)
  | [] => some []
  | tag :: b0 :: b1 :: b2 :: b3 :: rest =>
    if badTag tag then none
    else (taggedFields rest).map fun fs => (tag, BitVec.ofNat 32 (ofLittleEndian [b0, b1, b2, b3])) :: fs
  | [_] => none
  | [_, _] => none
  | [_, _, _] => none
  | [_, _, _, _] => none

/-- The tagged fields of a request with `fixed` bytes before them. -/
def fieldsAfter (fixed : Nat) (payload : List Byte) : Option (List TaggedField) :=
  if fixed ≤ payload.length then taggedFields (payload.drop fixed) else none

/-- The code names one of the 19 requests (Table 11-2). -/
def knownCode (code : Byte) : Bool := decide (1 ≤ code.toNat) && decide (code.toNat ≤ 0x13)

/-- The payload has a length Table 11-3 allows for the code and can be divided into the request's fields
(R150 step 2, R173). -/
def formatAllowed (code : Byte) (payload : List Byte) : Bool :=
  match code.toNat with
  | 0x03 => decide (payload.length = 2) || decide (payload.length = 3)
  | 0x05 => decide (payload.length = 1)
  | 0x07 => decide (payload.length = 1)
  | 0x08 => (fieldsAfter 1 payload).isSome
  | 0x09 => (fieldsAfter 2 payload).isSome
  | 0x0A => decide (payload.length = 1)
  | 0x0B => decide (payload.length = 1)
  | 0x0C => decide (payload.length = 1)
  | 0x11 => decide (payload.length = 0) || decide (payload.length = 1)
  | 0x12 => decide (payload.length = 4)
  | _ => decide (payload.length = 0)

/-- The request is allowed while the session is CLOSED (R150 step 3): IDENTIFY, STATUS, SESSION OPEN, LINK STATS and
DEVICE RESET. -/
def allowedClosed (code : Byte) : Bool :=
  decide (code = 0x01) || decide (code = 0x02) || decide (code = 0x03) || decide (code = 0x05) || decide (code = 0x06)

/-- The common checks, in order (R150): the refusal they give, if any. -/
def commonChecks (r : Request) (session : Session) : Option Status :=
  if !knownCode r.code then some .unknown
  else if !formatAllowed r.code r.payload then some .format
  else if decide (session = .closed) && !allowedClosed r.code then some .noSession
  else none

/-- A request taken that no cached reply answers: refused by the common checks, or carried out (R147, R150). -/
def dealWith (carryOut : Request → State → State) (r : Request) (s : State) : State :=
  match commonChecks r s.link.session with
  | some st => completeWith r (.refuse st) (popIntake s)
  | none => carryOut r (popIntake s)

/-- The first request waiting is taken if it is one of `mine` (R147): answered from the reply cache, refused by the
common checks, or carried out. Where no request may be taken, or another stands at the head, nothing happens. What becomes of
a copy is settled at the hand-on of its frame (R174): one whose frame found its reply in the cache is answered with that
reply, even where the entry has been displaced since (DEDUCED from R174 beside R148, assumption 28). -/
def takeRequest (mine : Byte → Bool) (carryOut : Request → State → State) (s : State) : State :=
  match s.link.intake with
  | [] => s
  | r :: _ =>
    if s.canTake && mine r.code then
      match s.link.cached r with
      | some reply => answerFromCache reply (popIntake (forgetCopy r s))
      | none =>
        match s.link.foundAtArrival r with
        | some reply => answerFromCache reply (popIntake (forgetCopy r s))
        | none => dealWith carryOut r s
    else s

/-- A carrying out that answers: its reply completes the request (R147). -/
def answered (f : Request → State → State × Answer) (r : Request) (s : State) : State :=
  completeWith r (f r s).2 (f r s).1

/-- The requests of one code. -/
def codeIs (code : Byte) : Byte → Bool := fun c => decide (c = code)

/-! ### Fields of payloads -/

/-- The byte at a position of a payload. -/
def payloadByte (n : Nat) (r : Request) : Byte := r.payload.getD n 0

/-- The slot number a byte names (R98). -/
def slotOf (b : Byte) : Option (Fin 4) := if h : b.toNat < 4 then some ⟨b.toNat, h⟩ else none

/-- The channel a byte names, 1 to 12 (R98). -/
def channelOf (b : Byte) : Option Channel :=
  if h : 1 ≤ b.toNat ∧ b.toNat ≤ 12 then some ⟨b.toNat - 1, by omega⟩ else none

/-- Detail code of the slot field (Table 11-4). -/
def slotField : Byte := 0xF0
/-- Detail code of the channel number field (Table 11-4). -/
def channelField : Byte := 0xF1
/-- Detail code of the position field (Table 11-4). -/
def positionField : Byte := 0xF2
/-- Detail code of the clear flag field (Table 11-4). -/
def clearField : Byte := 0xF3
/-- Detail code of the delivery mode field (Table 11-4). -/
def modeField : Byte := 0xF4
/-- Detail code of the notify set field (Table 11-4). -/
def notifyField : Byte := 0xF5
/-- Detail code of the report timeout field (Table 11-4). -/
def timeoutField : Byte := 0xF6

/-- The start source a code names (Table 11-8). -/
def StartSource.ofCode : Nat → Option StartSource
  | 0 => some .external
  | 1 => some .host
  | 2 => some .either
  | 3 => some .immediate
  | _ => none

/-- The edge selection a code names (Table 11-8). -/
def EdgeSelection.ofCode : Nat → Option EdgeSelection
  | 0 => some .rising
  | 1 => some .falling
  | 2 => some .both
  | _ => none

/-- The overlap policy a code names (Table 11-8). -/
def OverlapPolicy.ofCode : Nat → Option OverlapPolicy
  | 0 => some .ignore
  | 1 => some .restart
  | _ => none

/-- The full policy a code names (Table 11-8). -/
def FullPolicy.ofCode : Nat → Option FullPolicy
  | 0 => some .hold
  | 1 => some .discard
  | _ => none

/-- On or off as a code names it (Table 11-4). -/
def traceOf : Nat → Option Bool
  | 0 => some false
  | 1 => some true
  | _ => none

/-- A number in a range of the field's width, or none (R100, R171). -/
def inRange {w : Nat} (low high n : Nat) : Option (BitVec w) :=
  if low ≤ n ∧ n ≤ high then some (BitVec.ofNat w n) else none

/-- A global field written, or none where the tag names no global field or the value is out of range
(Table 6-1, Table 11-4, R100). A channel set is its low twelve bits and never out of range (R172). -/
def writeGlobal (f : TaggedField) (p : Profile) : Option Profile :=
  let n := f.2.toNat
  match f.1.toNat with
  | 0x01 => some { p with channelSet := f.2.setWidth 12 }
  | 0x02 => (inRange 1 4096 n).map fun v => { p with tickDivisor := v }
  | 0x03 => (inRange 1 4294967295 n).map fun v => { p with windowLimit := v }
  | 0x04 => (StartSource.ofCode n).map fun v => { p with startSource := v }
  | 0x05 => (EdgeSelection.ofCode n).map fun v => { p with startEdge := v }
  | 0x06 => (inRange 0 65535 n).map fun v => { p with startSpacing := v }
  | 0x07 => (OverlapPolicy.ofCode n).map fun v => { p with overlap := v }
  | 0x08 => (inRange 0 65535 n).map fun v => { p with runLength := v }
  | 0x09 => (inRange 0 65535 n).map fun v => { p with holdoff := v }
  | 0x0A => (FullPolicy.ofCode n).map fun v => { p with full := v }
  | _ => none

/-- A channel field written, or none where the tag names no channel field or the value is out of range
(Table 6-2, Table 11-4, R100). -/
def writeChannel (f : TaggedField) (c : ChannelFields) : Option ChannelFields :=
  let n := f.2.toNat
  match f.1.toNat with
  | 0x11 => (EdgeSelection.ofCode n).map fun v => { c with stopEdge := v }
  | 0x12 => (inRange 0 65535 n).map fun v => { c with spacing := v }
  | 0x13 => (inRange 1 255 n).map fun v => { c with quota := v }
  | 0x14 => (inRange 0 65535 n).map fun v => { c with blanking := v }
  | 0x15 => (traceOf n).map fun v => { c with trace := v }
  | _ => none

/-- The tagged fields of a request written in their order: what they leave, or the tag of the first that fails, a
tag supplied twice failing at its second occurrence (R98 step 4, R100). -/
def writeFields {α : Type} (write : TaggedField → α → Option α) : List Byte → List TaggedField → α → Except Byte α
  | _, [], a => .ok a
  | seen, f :: fs, a =>
    if seen.contains f.1 then .error f.1
    else
      match write f a with
      | none => .error f.1
      | some a' => writeFields write (f.1 :: seen) fs a'

end Sys2Proof.Machine
end

