-- ==== Sys2Proof/Machine/Profiles.lean ====
section
/-! DEFINITION. The six profile requests (Section 6): PROFILE CLEAR, PROFILE SET GLOBAL, PROFILE SET CHANNEL, PROFILE
READ, PROFILE CHECK and PROFILE SELECT. -/

namespace Sys2Proof.Machine

/-- A slot of the Profile Store replaced. -/
def setSlot (k : Fin 4) (v : Slot) (s : State) : State :=
  { s with store := { s.store with slots := s.store.slots.set k v } }

/-- A slot after a successful write of contents `p`: DRAFT, its revision kept (R99). -/
def writtenSlot (old : Slot) (p : Profile) : Slot := .draft old.revision p

/-- The contents a write starts from: the slot's own, or every default where it is EMPTY (R97). -/
def Slot.base (slot : Slot) : Profile := slot.contents.getD Profile.default

/-- PROFILE CLEAR (R98, R101). -/
def clearSlot (r : Request) (s : State) : State × Answer :=
  match slotOf (payloadByte 0 r) with
  | none => (s, .range slotField)
  | some k => if s.store.selected = some k then (s, .refuse .inUse) else (setSlot k .empty s, .okWith [])

/-- PROFILE SET GLOBAL (R98, R99, R100). -/
def setGlobal (r : Request) (s : State) : State × Answer :=
  match slotOf (payloadByte 0 r) with
  | none => (s, .range slotField)
  | some k =>
    if s.store.selected = some k then (s, .refuse .inUse)
    else
      let old := s.store.slots.get k
      match writeFields writeGlobal [] ((fieldsAfter 1 r.payload).getD []) old.base with
      | .error tag => (s, .range tag)
      | .ok p => (setSlot k (writtenSlot old p) s, .okWith (bytesOf 2 old.revision))

/-- PROFILE SET CHANNEL (R98, R100). -/
def setChannel (r : Request) (s : State) : State × Answer :=
  match slotOf (payloadByte 0 r) with
  | none => (s, .range slotField)
  | some k =>
    match channelOf (payloadByte 1 r) with
    | none => (s, .range channelField)
    | some ch =>
      if s.store.selected = some k then (s, .refuse .inUse)
      else
        let old := s.store.slots.get k
        match writeFields writeChannel [] ((fieldsAfter 2 r.payload).getD []) (old.base.chans.get ch) with
        | .error tag => (s, .range tag)
        | .ok c =>
          (setSlot k (writtenSlot old { old.base with chans := old.base.chans.set ch c }) s, .okWith (bytesOf 2 old.revision))

/-- PROFILE READ (R111, R112, R113). -/
def readProfile (r : Request) (s : State) : State × Answer :=
  if payloadByte 0 r = 0xFF then
    match s.engine.active with
    | none => (s, .refuse .noProfile)
    | some a => (s, .okWith (activeBody a))
  else
    match slotOf (payloadByte 0 r) with
    | none => (s, .range slotField)
    | some k => (s, .okWith (slotBody k (s.store.slots.get k)))

/-- What the check found: its code (11.3) and the channel that failed, 0 for the checks without one. -/
structure CheckFailure where
  code : Byte
  channel : Byte
  deriving DecidableEq, Repr

/-- Condition 2: the channel's blanking delay is not less than the window limit (Table 6-3). -/
def blankingFails (p : Profile) (i : Channel) : Bool := decide (p.windowLimit.toNat ≤ (p.chans.get i).blanking.toNat)

/-- Condition 3: a quota above 1 and a spacing not less than the window in base periods, the product taken exactly
(Table 6-3). -/
def spacingFails (p : Profile) (i : Channel) : Bool :=
  decide (1 < (p.chans.get i).quota.toNat)
    && decide (p.windowLimit.toNat * p.tickDivisor.toNat ≤ (p.chans.get i).spacing.toNat)

/-- The four conditions in order: the first that holds, naming the lowest-numbered channel that fails (R103). -/
def checkProfile (p : Profile) : Option CheckFailure :=
  if p.channelSet = 0 then some ⟨1, 0⟩
  else
    match (setMembers p.channelSet).find? (blankingFails p) with
    | some i => some ⟨2, channelByte i⟩
    | none =>
      match (setMembers p.channelSet).find? (spacingFails p) with
      | some i => some ⟨3, channelByte i⟩
      | none => if p.overlap = .restart ∧ p.startSource = .immediate then some ⟨4, 0⟩ else none

/-- PROFILE CHECK (R102, R104). -/
def checkSlot (r : Request) (s : State) : State × Answer :=
  match slotOf (payloadByte 0 r) with
  | none => (s, .range slotField)
  | some k =>
    match s.store.slots.get k with
    | .empty => (s, .refuse .notReady)
    | .ready rev _ => (s, .okWith (bytesOf 2 rev))
    | .draft rev p =>
      match checkProfile p with
      | some f => (s, ⟨.checkFailed, f.code, [f.channel]⟩)
      | none => (setSlot k (.ready (wrapToOne rev) p) s, .okWith (bytesOf 2 (wrapToOne rev)))

/-- The pending selection made, replaced or cancelled (R105). -/
def selectSlot (k : Option (Fin 4)) (s : State) : State := { s with store := { s.store with selected := k } }

/-- A profile applied in IDLE (R108): PROFILE_TAKEN carries run number 0. -/
def applyIdle (k : Fin 4) (rev : BitVec 16) (p : Profile) (s : State) : State :=
  (loadProfile k rev p s).post (.profileTaken k rev 0)

/-- PROFILE SELECT (R106, R107, R108). -/
def selectProfile (r : Request) (s : State) : State × Answer :=
  if payloadByte 0 r = 0xFF then (selectSlot none s, .okWith [2])
  else
    match slotOf (payloadByte 0 r) with
    | none => (s, .range slotField)
    | some k =>
      match s.store.slots.get k with
      | .empty => (s, .refuse .notReady)
      | .draft _ _ => (s, .refuse .notReady)
      | .ready rev p =>
        if s.engine.state = .idle then (applyIdle k rev p s, .okWith [1]) else (selectSlot (some k) s, .okWith [0])

/-- PROFILE_CLEAR. -/
def execProfileClear (s : State) : Host.Outcome State Fault Refusal :=
  .next (takeRequest (codeIs 0x07) (answered clearSlot) s)

/-- PROFILE_SET_GLOBAL. -/
def execProfileSetGlobal (s : State) : Host.Outcome State Fault Refusal :=
  .next (takeRequest (codeIs 0x08) (answered setGlobal) s)

/-- PROFILE_SET_CHANNEL. -/
def execProfileSetChannel (s : State) : Host.Outcome State Fault Refusal :=
  .next (takeRequest (codeIs 0x09) (answered setChannel) s)

/-- PROFILE_READ. -/
def execProfileRead (s : State) : Host.Outcome State Fault Refusal :=
  .next (takeRequest (codeIs 0x0A) (answered readProfile) s)

/-- PROFILE_CHECK. -/
def execProfileCheck (s : State) : Host.Outcome State Fault Refusal :=
  .next (takeRequest (codeIs 0x0B) (answered checkSlot) s)

/-- PROFILE_SELECT. -/
def execProfileSelect (s : State) : Host.Outcome State Fault Refusal :=
  .next (takeRequest (codeIs 0x0C) (answered selectProfile) s)

end Sys2Proof.Machine
end

