-- ==== Sys2Proof/Machine/Resets.lean ====
section
/-! DEFINITION. The resets and the reference clock (R1, R156, R158): PIN_RESET, RESET_N_RELEASE, REQUEST_RESET,
REFCLK_STOP and REFCLK_RESUME. -/

namespace Sys2Proof.Machine

/-- Every block but the Host Link and the input levels at its reset values (R56, R57, R79, R95, R114, Table 1-4). -/
def resetBlocks (inputs : Conditioner) (link : HostLink) (s : State) : State :=
  { s with
    time := Timebase.atReset
    inputs := inputs
    engine := Engine.atReset
    units := Twelve.all ChannelUnit.offUnit
    store := ProfileStore.atReset
    queue := ResultQueue.atReset
    link := link }

/-- The input conditioner at its reset values with each line's sampled level kept (R14, R19, R27). -/
def resetInputs (c : Conditioner) : Conditioner :=
  Conditioner.atReset c.start.level (Twelve.ofFn fun i => (c.stops.get i).level)

/-- The part as it is held while RESET_N is low (R156). The reset cause and the straps in force change at the
release. -/
def holdReset (s : State) : State :=
  { resetBlocks (resetInputs s.inputs) (HostLink.atReset s.link.cause s.link.baud1 s.link.baud0) s with
    held := true
    sampled := Sampling.nothing }

/-- RESET_N goes low (R156). It is sampled only while REFCLK runs (R1). -/
def pinReset (s : State) : State :=
  let p := { s with pins := { s.pins with resetN := false } }
  if s.pins.refclk then holdReset p else p

/-- The first base period after RESET_N is released (R156): straps and lines sampled, cause PIN. -/
def releaseReset (s : State) : State :=
  { resetBlocks (Conditioner.atReset s.pins.start s.pins.stops)
      { HostLink.atReset .pin s.pins.baud1 s.pins.baud0 with receiver := .waiting s.pins.rxd } s with
    held := false
    sampled := Sampling.nothing }

/-- RESET_N goes high with the straps at the given levels (R156). -/
def resetNRelease (baud1 baud0 : Bool) (s : State) : State :=
  let p := { s with pins := { s.pins with resetN := true, baud1 := baud1, baud0 := baud0 } }
  if s.pins.refclk && s.held then releaseReset p else p

/-- The request reset takes effect (R158): every block at its reset values, the sampled levels kept, the straps
sampled, cause REQUEST. A transition sampled in this base period and not yet judged is judged after the reset; an edge
judged before it is lost with the rest. -/
def requestReset (baud1 baud0 : Bool) (s : State) : State :=
  if s.live && s.link.resetDue then
    resetBlocks (resetInputs s.inputs) { HostLink.atReset .request baud1 baud0 with receiver := .restarted }
      { s with
        pins := { s.pins with baud1 := baud1, baud0 := baud0 }
        sampled := { s.sampled with judged := [] } }
  else s

/-- REFCLK stops (R1). -/
def stopClock (s : State) : State := { s with pins := { s.pins with refclk := false } }

/-- REFCLK resumes (R1, R14): a line whose level has changed makes its transition when the next base period samples
it (basePeriod). -/
def resumeClock (s : State) : State := { s with pins := { s.pins with refclk := true } }

/-- PIN_RESET. -/
def execPinReset (s : State) : Host.Outcome State Fault Refusal := .next (pinReset s)

/-- RESET_N_RELEASE. -/
def execResetNRelease (baud1 baud0 : Bool) (s : State) : Host.Outcome State Fault Refusal :=
  .next (resetNRelease baud1 baud0 s)

/-- REQUEST_RESET. -/
def execRequestReset (baud1 baud0 : Bool) (s : State) : Host.Outcome State Fault Refusal :=
  .next (requestReset baud1 baud0 s)

/-- REFCLK_STOP. -/
def execRefclkStop (s : State) : Host.Outcome State Fault Refusal := .next (stopClock s)

/-- REFCLK_RESUME. -/
def execRefclkResume (s : State) : Host.Outcome State Fault Refusal := .next (resumeClock s)

end Sys2Proof.Machine
end

