-- ==== Sys2Proof/Machine/Results.lean ====
section
/-! DEFINITION. The requests carried out by the Result Queue (Section 7): RESULT READ, RESULT ACK and QUEUE STATUS. -/

namespace Sys2Proof.Machine

/-- The position a RESULT READ names, 0 when omitted (R124). -/
def readPosition (r : Request) : Nat := (payloadByte 0 r).toNat

/-- RESULT READ (R124): the record at a position, whole, and whether it was already delivered; it becomes delivered. -/
def readResult (r : Request) (s : State) : State × Answer :=
  if Config.recordCapacity ≤ readPosition r then (s, .range positionField)
  else
    match s.queue.at (readPosition r) with
    | none => (s, .refuse .empty)
    | some e =>
      ({ s with queue := markDelivered (readPosition r) s.queue }, .okWith (flagByte e.delivered :: recordBytes e.record))

/-- The cycle number a RESULT ACK names (R125). -/
def ackNumber (r : Request) : BitVec 32 := BitVec.ofNat 32 (ofLittleEndian r.payload)

/-- The answer to a RESULT ACK carried out (R126). -/
def ackAnswer (removed : Nat) (heldAdmitted : Bool) (after : ResultQueue) : Answer :=
  .okWith ([countByte removed, flagByte heldAdmitted, flagByte (!after.entries.isEmpty)]
    ++ bytesOf 4 ((after.entries.head?.map (·.record.number)).getD 0))

/-- RESULT ACK (R125, R126): every record from the oldest through the one named leaves the queue, if all are
delivered; then a held record is offered admission. -/
def ackResults (r : Request) (s : State) : State × Answer :=
  match s.queue.position (ackNumber r) with
  | none => (s, .refuse .unknownCycle)
  | some n =>
    match (s.queue.entries.take (n + 1)).find? fun e => !e.delivered with
    | some e => (s, ⟨.undelivered, 0, bytesOf 4 e.record.number⟩)
    | none =>
      let f := { s with queue := releaseRecords (n + 1) s.queue }
      let t := offerHeld f
      (t, ackAnswer (n + 1) (f.engine.closeBuffer.isSome && t.engine.closeBuffer.isNone) t.queue)

/-- QUEUE STATUS (R127). -/
def queueStatus (_ : Request) (s : State) : State × Answer :=
  (s, .okWith (queueStatusBody s.queue s.engine.closeBuffer.isSome))

/-- RESULT_READ. -/
def execResultRead (s : State) : Host.Outcome State Fault Refusal :=
  .next (takeRequest (codeIs 0x11) (answered readResult) s)

/-- RESULT_ACK. -/
def execResultAck (s : State) : Host.Outcome State Fault Refusal :=
  .next (takeRequest (codeIs 0x12) (answered ackResults) s)

/-- QUEUE_STATUS. -/
def execQueueStatus (s : State) : Host.Outcome State Fault Refusal :=
  .next (takeRequest (codeIs 0x13) (answered queueStatus) s)

end Sys2Proof.Machine
end

