-- ==== Sys2Proof/Machine/Runs.lean ====
section
/-! DEFINITION. The requests that act on a run and a cycle: ARM and DISARM (Section 5), ABORT and START (Section 3). -/

namespace Sys2Proof.Machine

/-- A new run begun by ARM (R83 step 3): the rejected START count cleared (R27), then ARMED entered. -/
def armRun (s : State) : State :=
  let b := beginRun s
  enterArmed { b with inputs := { b.inputs with rejectedStarts := 0 } }

/-- ARM (R83). The PROFILE_TAKEN of a pending selection carries the number of the run this ARM begins. -/
def carryArm (_ : Request) (s : State) : State × Answer :=
  if s.engine.state = .idle then
    match s.pendingProfile with
    | some (k, rev, p) =>
      let t := armRun ((loadProfile k rev p s).post (.profileTaken k rev (wrapToOne s.engine.runNumber)))
      (t, .okWith (bytesOf 2 t.engine.runNumber))
    | none =>
      if s.engine.active.isSome then (armRun s, .okWith (bytesOf 2 (armRun s).engine.runNumber))
      else (s, .refuse .noProfile)
  else (s, .refuse .state)

/-- The stop request flag set (R82). -/
def requestStop (s : State) : State := { s with engine := { s.engine with stopRequest := true } }

/-- What DISARM does in each engine state (R89). -/
def disarm (s : State) : State :=
  match s.engine.state with
  | .idle => s
  | .armed => endRun .disarmed s
  | .holdoff => endRun .disarmed s
  | .measuring => requestStop s
  | .stalled => requestStop s

/-- DISARM (R89): answered OK in every state. -/
def carryDisarm (_ : Request) (s : State) : State × Answer := (disarm s, .okWith [])

/-- The held record given up by an ABORT in STALLED (R52): counted lost, LOSS and STALL left passed, the cycle
counted in cycles done; then the run ends ABORTED. -/
def giveUpHeld (r : ClosedRecord) (s : State) : State :=
  let c := { s with
    queue := countLoss s.queue
    engine := { s.engine with closeBuffer := none, cyclesDone := satInc s.engine.cyclesDone } }
  let l := c.post (.loss r.record.number .abort r.record.missedBefore)
  endRun .aborted (l.post (.stall true r.record.number))

/-- What ABORT does in each engine state (R50, R51, R52). -/
def abortRun (s : State) : State :=
  match s.engine.state with
  | .idle => s
  | .armed => endRun .aborted s
  | .holdoff => endRun .aborted s
  | .measuring => closeCycle (.cut .host) none (requestStop s)
  | .stalled =>
    match s.engine.closeBuffer with
    | none => endRun .aborted s
    | some r => giveUpHeld r s

/-- ABORT: answered OK in every state (R50 to R52). -/
def carryAbort (_ : Request) (s : State) : State × Answer := (abortRun s, .okWith [])

/-- The START request's answer (Table 3-5), from the state before it and the state it leaves. -/
def startAnswer (before after : State) : Answer :=
  if before.engine.state = .idle then .refuse .state
  else if !before.profile.startSource.accepts .host then .refuse .source
  else
    match before.engine.state with
    | .idle => .refuse .state
    | .armed => .okWith (bytesOf 4 after.engine.cycleCounter)
    | .stalled => .refuse .state
    | .holdoff => .refuse .state
    | .measuring =>
      match before.profile.overlap with
      | .ignore => .refuse .busy
      | .restart =>
        if after.engine.state = .stalled then .refuse .stalled
        else if after.engine.state = .idle then .refuse .state
        else .okWith (bytesOf 4 after.engine.cycleCounter)

/-- START (R49): a start event of source HOST, and the answer that says what became of it. -/
def carryStart (_ : Request) (s : State) : State × Answer := (startEvent .host s, startAnswer s (startEvent .host s))

/-- ARM. -/
def execArm (s : State) : Host.Outcome State Fault Refusal := .next (takeRequest (codeIs 0x0D) (answered carryArm) s)

/-- DISARM. -/
def execDisarm (s : State) : Host.Outcome State Fault Refusal :=
  .next (takeRequest (codeIs 0x0E) (answered carryDisarm) s)

/-- ABORT. -/
def execAbort (s : State) : Host.Outcome State Fault Refusal :=
  .next (takeRequest (codeIs 0x0F) (answered carryAbort) s)

/-- START. -/
def execStart (s : State) : Host.Outcome State Fault Refusal :=
  .next (takeRequest (codeIs 0x10) (answered carryStart) s)

end Sys2Proof.Machine
end

