-- ==== Sys2Proof/Machine/Serial.lean ====
section
/-! DEFINITION. What reaches the part on RXD and leaves it on TXD (Section 8): BYTE_RECEIVED, the whole frames
(REQUEST_FRAME_ARRIVAL, LINK_ACK, CRC_ERROR, MISDIRECTED_FRAME, FRAMING_ERROR), BREAK, RECEIVE_LINE_HIGH_AGAIN and
FRAME_SENT. -/

namespace Sys2Proof.Machine

/-- A character can complete now (R132): the part lives and the receiver is not waiting for the line to go high. -/
def State.canReceive (s : State) : Bool := s.live && s.link.receiver.mayComplete

/-- A character has completed with its stop bit high, and the Host Link does `f` with what it completed (R132). -/
def onCharacter (f : HostLink → HostLink) (s : State) : State :=
  if s.canReceive then
    { s with link := f { s.link with receiver := s.link.receiver.completed }, pins := { s.pins with rxd := true } }
  else s

/-- What a framing error of each cause does (R137): a bad character outside a frame is discarded uncounted. -/
def takeFramingError : FramingCause → HostLink → HostLink
  | .badClass, l => frameError l
  | .badLength, l => frameError l
  | .badLinkAck, l => frameError l
  | .badCharacter, l => takeBadCharacter l

/-- A break (R140). The receiver then waits for the line to go high, so one low counts once. -/
def takeBreak (s : State) : State :=
  if s.live && !s.link.receiver.awaitsHigh then
    { s with link := breakFound s.link, pins := { s.pins with rxd := false } }
  else s

/-- The receive line is sampled high again (R132). As a command it may follow a request reset in the same base period,
of which R158 does not say whether its sample counts (DESIGN CHOICE, assumption 17). -/
def lineHighAgain (s : State) : State :=
  if s.live && s.link.receiver.awaitsHigh then
    { s with link := { s.link with receiver := .waiting true }, pins := { s.pins with rxd := true } }
  else s

/-- What the end of a frame tells its source (R142): a report's slot, if still held in an OPEN session, loads its
timer (R11, R163), and the DEVICE RESET reply makes the reset due (R158). -/
def tellSource (source : FrameSource) (l : HostLink) : HostLink :=
  match source with
  | .reply resets => if resets then { l with resetDue := true } else l
  | .report slot =>
    match l.session with
    | .opened p => { l with window := l.window.map (loadTimer slot (Config.timeoutUnit * p.timeout.toNat)) }
    | .closed => l
    | .suspended _ => l

/-- A frame's last byte leaves TXD (R133, R142). The transmitter is idle from the next base period. -/
def frameSent (s : State) : State :=
  match s.link.transmitter with
  | .sending _ 0 source =>
    if s.live then { s with link := { tellSource source s.link with transmitter := .ended } } else s
  | .sending _ (_ + 1) _ => s
  | .idle => s
  | .chosen _ _ _ => s
  | .ended => s

/-- BYTE_RECEIVED. -/
def execByteReceived (b : Byte) (s : State) : Host.Outcome State Fault Refusal := .next (onCharacter (takeByte b) s)

/-- REQUEST_FRAME_ARRIVAL: the frame's bytes have all been received. A payload no frame can carry is refused. -/
def execRequestFrameArrival (seq code : Byte) (payload : List Byte) (s : State) : Host.Outcome State Fault Refusal :=
  if payload.length ≤ Config.maxPayload then .next (onCharacter (arriveRequest ⟨seq, code, payload⟩) s)
  else .refused .payloadTooLong

/-- LINK_ACK: the frame's bytes have all been received. -/
def execLinkAck (seq : Byte) (s : State) : Host.Outcome State Fault Refusal := .next (onCharacter (arriveAck seq) s)

/-- CRC_ERROR: the frame's bytes have all been received. -/
def execCrcError (s : State) : Host.Outcome State Fault Refusal := .next (onCharacter checkError s)

/-- MISDIRECTED_FRAME: the frame's bytes have all been received. -/
def execMisdirectedFrame (s : State) : Host.Outcome State Fault Refusal := .next (onCharacter misdirected s)

/-- FRAMING_ERROR. -/
def execFramingError (cause : FramingCause) (s : State) : Host.Outcome State Fault Refusal :=
  .next (onCharacter (takeFramingError cause) s)

/-- BREAK. -/
def execLineBreak (s : State) : Host.Outcome State Fault Refusal := .next (takeBreak s)

/-- RECEIVE_LINE_HIGH_AGAIN. -/
def execReceiveLineHighAgain (s : State) : Host.Outcome State Fault Refusal := .next (lineHighAgain s)

/-- FRAME_SENT. -/
def execFrameSent (s : State) : Host.Outcome State Fault Refusal := .next (frameSent s)

end Sys2Proof.Machine
end

