-- ==== Sys2Proof/Machine/Sessions.lean ====
section
/-! DEFINITION. The requests carried out by the Host Link (Sections 8 and 9): IDENTIFY, STATUS, SESSION OPEN, SESSION
CLOSE, LINK STATS and DEVICE RESET; and the refusal of a code that names no request. -/

namespace Sys2Proof.Machine

/-- IDENTIFY (R154). -/
def identify (_ : Request) (s : State) : State × Answer := (s, .okWith (identifyBody s.link))

/-- STATUS (R155). -/
def reportStatus (_ : Request) (s : State) : State × Answer := (s, .okWith (statusBody s))

/-- The delivery mode a byte names (Table 11-8). -/
def DeliveryMode.ofByte (b : Byte) : Option DeliveryMode :=
  if b = 0 then some .pull else if b = 1 then some .push else none

/-- The notify set a byte names: no bit beyond the four kinds (R172). -/
def notifyOf (b : Byte) : Option (BitVec 4) := if b.toNat < 16 then some (b.setWidth 4) else none

/-- The report timeout: 25 when omitted, and never 0 (R152). -/
def timeoutOf (r : Request) : Option Byte :=
  match r.payload[2]? with
  | none => some 25
  | some b => if b = 0 then none else some b

/-- The session opened afresh (R152). -/
def openSession (p : SessionParams) (s : State) : State :=
  { s with link := { emptyReports s.link with session := .opened p } }

/-- SESSION OPEN (R152): the fields tested in order, then the session opened; the reply carries the session state
before the request. -/
def carryOpen (r : Request) (s : State) : State × Answer :=
  match DeliveryMode.ofByte (payloadByte 0 r) with
  | none => (s, .range modeField)
  | some m =>
    match notifyOf (payloadByte 1 r) with
    | none => (s, .range notifyField)
    | some n =>
      match timeoutOf r with
      | none => (s, .range timeoutField)
      | some t => (openSession ⟨m, n, t⟩ s, .okWith [s.link.session.code])

/-- SESSION CLOSE (R153). -/
def carryClose (_ : Request) (s : State) : State × Answer :=
  ({ s with link := { emptyReports s.link with session := .closed } }, .okWith [])

/-- The count of report retransmissions that a chosen report falls back to, cleared with the statistics. -/
def Transmitter.clearBefore : Transmitter → Transmitter
  | .idle => .idle
  | .chosen f slot _ => .chosen f slot 0
  | .sending f left src => .sending f left src
  | .ended => .ended

/-- The statistics cleared (R144, R145). -/
def clearStats (s : State) : State :=
  { s with link := { s.link with
      stats := LinkStats.zero
      clearDue := false
      transmitter := s.link.transmitter.clearBefore } }

/-- LINK STATS (R145): the reply carries the statistics as they stand, and `clear` is done after the reply is built when
the clear flag is yes. -/
def readStats (clear : State → State) (r : Request) (s : State) : State × Answer :=
  if payloadByte 0 r = 0 then (s, .okWith s.link.stats.bytes)
  else if payloadByte 0 r = 1 then (clear s, .okWith s.link.stats.bytes)
  else (s, .range clearField)

/-- LINK STATS as the part takes it of its own accord (R145): the reply is built, and the clearing is due in the same base
period, after whatever event falls between. -/
def takeStatsRequest (s : State) : State :=
  takeRequest (codeIs 0x05) (answered (readStats fun t => { t with link := { t.link with clearDue := true } })) s

/-- The clearing that a LINK STATS has left due (R145). -/
def finishStats (s : State) : State := if s.live && s.link.clearDue then clearStats s else s

/-- DEVICE RESET (R157): answered OK by a reply that will reset the part, no further request being taken. -/
def carryReset (r : Request) (s : State) : State :=
  { s with link := { completeReply ⟨(Answer.okWith []).reply r, true⟩ s.link with resetTaken := some r.seq } }

/-- IDENTIFY. -/
def execIdentify (s : State) : Host.Outcome State Fault Refusal :=
  .next (takeRequest (codeIs 0x01) (answered identify) s)

/-- STATUS. -/
def execStatus (s : State) : Host.Outcome State Fault Refusal :=
  .next (takeRequest (codeIs 0x02) (answered reportStatus) s)

/-- SESSION_OPEN. -/
def execSessionOpen (s : State) : Host.Outcome State Fault Refusal :=
  .next (takeRequest (codeIs 0x03) (answered carryOpen) s)

/-- SESSION_CLOSE. -/
def execSessionClose (s : State) : Host.Outcome State Fault Refusal :=
  .next (takeRequest (codeIs 0x04) (answered carryClose) s)

/-- LINK_STATS. -/
def execLinkStats (s : State) : Host.Outcome State Fault Refusal :=
  .next (takeRequest (codeIs 0x05) (answered (readStats clearStats)) s)

/-- DEVICE_RESET. -/
def execDeviceReset (s : State) : Host.Outcome State Fault Refusal :=
  .next (takeRequest (codeIs 0x06) carryReset s)

/-- UNKNOWN_REQUEST (R150): a code that names none of the requests, refused with UNKNOWN by the common checks. -/
def execUnknownRequest (s : State) : Host.Outcome State Fault Refusal :=
  .next (takeRequest (fun c => !knownCode c) (fun _ t => t) s)

end Sys2Proof.Machine
end

