-- ==== Sys2Proof/Machine/Timers.lean ====
section
/-! DEFINITION. The expiries: BLANKING_END, WINDOW_EXPIRY, HOLDOFF_EXPIRY, GAP_TIMEOUT and REPORT_TIMEOUT. Each takes
effect in the base period in which its timer has run out; at any other time it is not taken (assumption 4). -/

namespace Sys2Proof.Machine

/-- The blanking of a channel ends (R62). -/
def blankingEnd (ch : Channel) (s : State) : State :=
  if s.live then { s with units := s.units.set ch (endBlanking s.time.elapsed (s.units.get ch)) } else s

/-- The elapsed tick counter, counting, has reached the window limit latched for the open cycle (R6, R41). -/
def State.windowDue (s : State) : Bool :=
  match s.engine.cycle with
  | none => false
  | some oc =>
    decide (s.engine.state = .measuring) && s.time.counting && decide (oc.windowLimit.toNat ≤ s.time.elapsed.toNat)

/-- Window expiry (R41). -/
def windowExpiry (s : State) : State := if s.live && s.windowDue then closeCycle .expired none s else s

/-- The holdoff timer has reached 0 (R10). -/
def State.holdoffDue (s : State) : Bool :=
  decide (s.engine.state = .holdoff) && decide (s.engine.holdoffTimer = some 0)

/-- The expiry of the holdoff (R88): an arming boundary. -/
def holdoffExpiry (s : State) : State := if s.live && s.holdoffDue then armingBoundary s else s

/-- The gap timer has run out inside a frame (R139). -/
def HostLink.gapDue (l : HostLink) : Bool := l.framer.inFrame && decide (l.gapTimer = some 0)

/-- The partial frame is discarded and the gap timeout counted (R139). -/
def dropLateFrame (l : HostLink) : HostLink :=
  { dropFrame l with stats := { l.stats with gapTimeouts := satInc l.stats.gapTimeouts } }

/-- The gap timer expires (R139). -/
def gapTimeout (s : State) : State :=
  if s.live && s.link.gapDue then { s with link := dropLateFrame s.link } else s

/-- The report a slot holds, when its timer has run out (R166). -/
def HostLink.expired (l : HostLink) (slot : Fin 4) : Option HeldReport :=
  l.window.find? fun h => decide (h.slot = slot) && decide (h.timer = some 0)

/-- The session suspends (R167): every report timer stops. -/
def suspendSession (p : SessionParams) (l : HostLink) : HostLink :=
  { l with
    session := .suspended p
    window := stopTimers l.window
    stats := { l.stats with suspensions := satInc l.stats.suspensions } }

/-- A report timer's expiry as the Host Link takes it (R166, R167). -/
def expireReport (slot : Fin 4) (l : HostLink) : HostLink :=
  match l.session with
  | .opened p =>
    match l.expired slot with
    | none => l
    | some h =>
      if h.attempts < Config.maxAttempts then { l with window := l.window.map (timeOutReport slot) }
      else suspendSession p l
  | .closed => l
  | .suspended _ => l

/-- A report timer expires (R166, R167). -/
def reportTimeout (slot : Fin 4) (s : State) : State := if s.live then { s with link := expireReport slot s.link } else s

/-- BLANKING_END. -/
def execBlankingEnd (ch : Channel) (s : State) : Host.Outcome State Fault Refusal := .next (blankingEnd ch s)

/-- WINDOW_EXPIRY. -/
def execWindowExpiry (s : State) : Host.Outcome State Fault Refusal := .next (windowExpiry s)

/-- HOLDOFF_EXPIRY. -/
def execHoldoffExpiry (s : State) : Host.Outcome State Fault Refusal := .next (holdoffExpiry s)

/-- GAP_TIMEOUT. -/
def execGapTimeout (s : State) : Host.Outcome State Fault Refusal := .next (gapTimeout s)

/-- REPORT_TIMEOUT. -/
def execReportTimeout (slot : Fin 4) (s : State) : Host.Outcome State Fault Refusal := .next (reportTimeout slot s)

end Sys2Proof.Machine
end

