-- ==== Sys2Proof/Machine/Dispatch.lean ====
section
/-! DEFINITION. The meaning of every command: one arm per row of spec/opcode_table.json. -/

namespace Sys2Proof.Machine

def exec (i : Instr) (s : State) : Host.Outcome State Fault Refusal :=
  match i with
  | .pinReset => Sys2Proof.Machine.execPinReset s
  | .resetNRelease b1 b0 => Sys2Proof.Machine.execResetNRelease b1 b0 s
  | .refclkStop => Sys2Proof.Machine.execRefclkStop s
  | .refclkResume => Sys2Proof.Machine.execRefclkResume s
  | .startTransition => Sys2Proof.Machine.execStartTransition s
  | .stopTransition ch => Sys2Proof.Machine.execStopTransition ch s
  | .filterLapse line => Sys2Proof.Machine.execFilterLapse line s
  | .blankingEnd ch => Sys2Proof.Machine.execBlankingEnd ch s
  | .windowExpiry => Sys2Proof.Machine.execWindowExpiry s
  | .holdoffExpiry => Sys2Proof.Machine.execHoldoffExpiry s
  | .framingError cause => Sys2Proof.Machine.execFramingError cause s
  | .crcError => Sys2Proof.Machine.execCrcError s
  | .misdirectedFrame => Sys2Proof.Machine.execMisdirectedFrame s
  | .gapTimeout => Sys2Proof.Machine.execGapTimeout s
  | .lineBreak => Sys2Proof.Machine.execLineBreak s
  | .requestFrameArrival seq code payload => Sys2Proof.Machine.execRequestFrameArrival seq code payload s
  | .linkAck seq => Sys2Proof.Machine.execLinkAck seq s
  | .identify => Sys2Proof.Machine.execIdentify s
  | .status => Sys2Proof.Machine.execStatus s
  | .sessionOpen => Sys2Proof.Machine.execSessionOpen s
  | .sessionClose => Sys2Proof.Machine.execSessionClose s
  | .linkStats => Sys2Proof.Machine.execLinkStats s
  | .deviceReset => Sys2Proof.Machine.execDeviceReset s
  | .profileClear => Sys2Proof.Machine.execProfileClear s
  | .profileSetGlobal => Sys2Proof.Machine.execProfileSetGlobal s
  | .profileSetChannel => Sys2Proof.Machine.execProfileSetChannel s
  | .profileRead => Sys2Proof.Machine.execProfileRead s
  | .profileCheck => Sys2Proof.Machine.execProfileCheck s
  | .profileSelect => Sys2Proof.Machine.execProfileSelect s
  | .arm => Sys2Proof.Machine.execArm s
  | .disarm => Sys2Proof.Machine.execDisarm s
  | .abort => Sys2Proof.Machine.execAbort s
  | .start => Sys2Proof.Machine.execStart s
  | .resultRead => Sys2Proof.Machine.execResultRead s
  | .resultAck => Sys2Proof.Machine.execResultAck s
  | .queueStatus => Sys2Proof.Machine.execQueueStatus s
  | .unknownRequest => Sys2Proof.Machine.execUnknownRequest s
  | .frameSent => Sys2Proof.Machine.execFrameSent s
  | .requestReset b1 b0 => Sys2Proof.Machine.execRequestReset b1 b0 s
  | .reportTimeout slot => Sys2Proof.Machine.execReportTimeout slot s
  | .byteReceived b => Sys2Proof.Machine.execByteReceived b s
  | .receiveLineHighAgain => Sys2Proof.Machine.execReceiveLineHighAgain s

end Sys2Proof.Machine
end

