-- ==== Sys2Proof/Machine/Clock.lean ====
section
/-! DEFINITION. What the part does of its own accord when no command waits: it takes the events that are due in the
present base period, in an order the manual leaves open, and when none is left lets one base period pass
(assumption 2). -/

namespace Sys2Proof.Machine

/-! ### One base period -/

/-- The thirteen measurement inputs. -/
def lines : List Line := .start :: channels.map .stop

/-- The line's level differs from its sampled level: sampling it finds a transition (R14). -/
def State.lineChanged (s : State) (line : Line) : Bool := s.pins.lineLevel line != (s.inputs.line line).level

/-- Every line sampled at the level the outside holds (R14). -/
def sampleLevels (p : Pins) (c : Conditioner) : Conditioner :=
  { c with
    start := { c.start with level := p.start }
    stops := Twelve.ofFn fun i => { c.stops.get i with level := p.stops.get i } }

/-- The Timebase after one more base period (R2, R4, R6): the tick generator issues a tick when its phase would pass
the divisor less one. -/
def tickTime (divisor : BitVec 16) (t : Timebase) : Timebase :=
  if t.tickRunning then
    if divisor.toNat ≤ t.phase.toNat + 1 then
      { t with epoch := t.epoch + 1, phase := 0, elapsed := if t.counting then t.elapsed + 1 else t.elapsed }
    else { t with epoch := t.epoch + 1, phase := t.phase + 1 }
  else { t with epoch := t.epoch + 1 }

/-- The tick divisor in force: the open cycle's (R4). -/
def State.divisor (s : State) : BitVec 16 := (s.engine.cycle.map (·.divisor)).getD 0

/-- Every counter, timer, sampler and bit timer after one more base period (R1). How far the transition commands of the
new base period take their transitions is a free value (assumption 3). -/
def advance (s : State) : State :=
  let l := tickLink s.pins.rxd s.link
  { s with
    time := tickTime s.divisor s.time
    inputs := sampleLevels s.pins s.inputs
    engine := { s.engine with holdoffTimer := timerTick s.engine.holdoffTimer }
    link := l.1
    sampled := {
      moved := lines.filter s.lineChanged
      unjudged := lines.filter s.lineChanged
      judged := []
      found := l.2 }
    taking := Config.transitionTaking s.choices
    choices := s.choices + 1 }

/-- One base period passes (R1, R2, R156). While REFCLK is stopped none does; while RESET_N is low every block stays
at its reset values. -/
def basePeriod (s : State) : State :=
  if !s.pins.refclk then s
  else if !s.pins.resetN then holdReset s
  else if s.held then releaseReset s
  else advance s

/-! ### Events due in the present base period -/

/-- The row of the opcode table that carries out a request of a code (Table 11-2). -/
def requestCommand (code : Byte) : Instr :=
  match code.toNat with
  | 0x01 => .identify
  | 0x02 => .status
  | 0x03 => .sessionOpen
  | 0x04 => .sessionClose
  | 0x05 => .linkStats
  | 0x06 => .deviceReset
  | 0x07 => .profileClear
  | 0x08 => .profileSetGlobal
  | 0x09 => .profileSetChannel
  | 0x0A => .profileRead
  | 0x0B => .profileCheck
  | 0x0C => .profileSelect
  | 0x0D => .arm
  | 0x0E => .disarm
  | 0x0F => .abort
  | 0x10 => .start
  | 0x11 => .resultRead
  | 0x12 => .resultAck
  | 0x13 => .queueStatus
  | _ => .unknownRequest

/-- The lines whose held epoch lapses now (R18). -/
def dueLapses (s : State) : List Instr :=
  (if s.inputs.start.lapseDue s.now then [.filterLapse .start] else [])
    ++ (channels.filter fun i => (s.inputs.stops.get i).lapseDue s.now).map fun i => .filterLapse (.stop i)

/-- The channels whose blanking ends now (R62). -/
def dueBlankings (s : State) : List Instr :=
  (channels.filter fun i => (s.units.get i).blankingDue s.time.elapsed).map .blankingEnd

/-- The expiries of the measurement timers due now (R41, R88). -/
def dueExpiries (s : State) : List Instr :=
  (if s.windowDue then [.windowExpiry] else []) ++ (if s.holdoffDue then [.holdoffExpiry] else [])

/-- The held reports whose timers expire now, while OPEN (R166, R167). -/
def dueReports (l : HostLink) : List Instr :=
  match l.session with
  | .opened _ => (l.window.filter fun h => decide (h.timer = some 0)).map fun h => .reportTimeout h.slot
  | .closed => []
  | .suspended _ => []

/-- The serial line's events due now (R139, R142, R158). -/
def dueSerial (s : State) : List Instr :=
  (if s.link.gapDue then [.gapTimeout] else [])
    ++ (match s.link.transmitter with
      | .sending _ 0 _ => [.frameSent]
      | .sending _ (_ + 1) _ => []
      | .idle => []
      | .chosen _ _ _ => []
      | .ended => [])
    ++ (if s.link.resetDue then [.requestReset s.pins.baud1 s.pins.baud0] else [])

/-- What the part can do now of its own accord. -/
inductive Internal where
  /-- Judge a transition that sampling found in this base period. -/
  | judge (line : Line)
  /-- Hand a judged edge to its receiver. -/
  | receive (e : HeldEdge)
  /-- Take what the character receiver found in this base period. -/
  | found (c : Instr)
  /-- Take an event whose time has come. -/
  | due (c : Instr)
  /-- Build the reply to a LINK STATS. -/
  | readStats
  /-- Clear the statistics that a LINK STATS has read. -/
  | clearStats
  /-- The transmit arbiter chooses the next frame. -/
  | choose
  deriving DecidableEq, Repr

/-- The request at the head of the intake queue, when it may be taken (R147). -/
def dueRequest (s : State) : List Internal :=
  match s.link.intake with
  | [] => []
  | r :: _ => if s.canTake then [if r.code = 0x05 then .readStats else .due (requestCommand r.code)] else []

/-- Everything the part can do in this base period. -/
def internals (s : State) : List Internal :=
  if s.live then
    s.sampled.unjudged.map .judge ++ s.sampled.judged.map .receive ++ s.sampled.found.map .found
      ++ (dueLapses s ++ dueBlankings s ++ dueExpiries s ++ dueReports s.link ++ dueSerial s).map .due
      ++ dueRequest s
      ++ (if s.link.clearDue then [.clearStats] else [])
      ++ (if (arbiterChoice s).isSome then [.choose] else [])
  else []

/-- What the receiver found is taken as its command is, but for the level of the pin, which is the outside's. -/
def takeFound (c : Instr) (s : State) : Host.Outcome State Fault Refusal :=
  match exec c { s with sampled := { s.sampled with found := s.sampled.found.erase c } } with
  | .next t => .next { t with pins := s.pins }
  | .fault f => .fault f
  | .refused r => .refused r

/-- One of these taken. -/
def takeInternal (i : Internal) (s : State) : Host.Outcome State Fault Refusal :=
  match i with
  | .judge line => .next (judgeFound line s)
  | .receive e => .next (receiveEdge e s)
  | .found c => takeFound c s
  | .due c => exec c s
  | .readStats => .next (takeStatsRequest s)
  | .clearStats => .next (finishStats s)
  | .choose => .next ((arbiterChoice s).getD s)

/-- The member of a list that a free number picks; the only member where there is one. -/
def pick {α : Type} (n : Nat) (a : α) (rest : List α) : α :=
  match rest with
  | [] => a
  | b :: more => (a :: b :: more).getD (n % (more.length + 2)) a

/-- With no command waiting: one of the events due is taken, or, when none is, one base period passes. -/
def idle (s : State) : Host.Outcome State Fault Refusal :=
  match internals s with
  | [] => .next (basePeriod s)
  | i :: rest => takeInternal (pick (Config.eventOrder s.choices) i rest) { s with choices := s.choices + 1 }

end Sys2Proof.Machine
end

