-- ==== Sys2Proof/Safety.lean ====
section
/-! DEFINITION. What a sound state of the part is, in the terms the claims use: the manual's own statements about every
state (Figure 3-1, R45, R46, R72, R105, R110, R116, R121, R161 to R163), and running several commands in a row. -/

namespace Sys2Proof.Machine

/-! ### Running commands in a row -/

/-- The commands carried out one after the other, stopping at the first that has no next state. -/
def runAll : List Instr → State → Host.Outcome State Fault Refusal
  | [], s => .next s
  | c :: cs, s =>
    match exec c s with
    | .next t => runAll cs t
    | .fault f => .fault f
    | .refused r => .refused r

/-! ### The Cycle Engine -/

/-- The engine state is one in which a cycle has been started and its record is in neither total (R45). -/
def Engine.owesRecord (e : Engine) : Bool := decide (e.state = .measuring) || decide (e.state = .stalled)

/-- The accounting of cycles (R45): since the last reset the cycles started, modulo 2^32, equal the records admitted
plus the records lost, plus one while MEASURING or STALLED. -/
def State.accounted (s : State) : Prop :=
  s.engine.cycleCounter
    = (s.queue.totalAdmitted + s.queue.totalLost).setWidth 32 + (if s.engine.owesRecord then 1 else 0)
  deriving Decidable

/-- The engine's own columns of Figure 3-1, with R46 and R82: a cycle is open exactly in MEASURING, where alone the
counters run; the close buffer is occupied exactly in STALLED; the holdoff timer runs exactly in HOLDOFF; the stop
request flag is set only in MEASURING or STALLED; there is an active profile in every state but IDLE; and the open
cycle's channel set is the active profile's (R33). -/
def State.engineShaped (s : State) : Prop :=
  (s.engine.cycle.isSome = true ↔ s.engine.state = .measuring)
    ∧ (s.time.counting = true ↔ s.engine.state = .measuring)
    ∧ (s.time.tickRunning = true ↔ s.engine.state = .measuring)
    ∧ (s.engine.closeBuffer.isSome = true ↔ s.engine.state = .stalled)
    ∧ (s.engine.holdoffTimer.isSome = true ↔ s.engine.state = .holdoff)
    ∧ (s.engine.stopRequest = true → s.engine.state = .measuring ∨ s.engine.state = .stalled)
    ∧ (s.engine.active = none → s.engine.state = .idle)
    ∧ (∀ oc ∈ s.engine.cycle, oc.channelSet = s.profile.channelSet)
    ∧ (s.engine.endReason ≠ none → s.engine.state = .idle)
  deriving Decidable

/-- A unit of the channel set as Figure 3-1's last column and Figure 4-1 allow it in an engine state. -/
def unitFits (e : EngineState) (u : ChannelUnit) : Prop :=
  (e = .idle → u = ChannelUnit.offUnit)
    ∧ (e = .armed → u.state = .primed ∧ u.cycleOpen = false)
    ∧ (e = .measuring → (u.state = .blanked ∨ u.state = .counting ∨ u.state = .done) ∧ u.cycleOpen = true)
    ∧ (e = .stalled ∨ e = .holdoff → u.state.concluded = true ∧ u.cycleOpen = false)
  deriving Decidable

/-- The units of Figure 3-1: those of the channel set as the engine state has them, the others OFF. -/
def State.unitsShaped (s : State) : Prop :=
  ∀ i ∈ channels, if inSet s.profile.channelSet i = true then unitFits s.engine.state (s.units.get i)
    else s.units.get i = ChannelUnit.offUnit
  deriving Decidable

/-! ### Profiles -/

/-- Every field of a profile is in its range (Tables 6-1 and 6-2); the ranges the types do not carry are the tick
divisor's, the window limit's and the quotas'. -/
def Profile.inRange (p : Profile) : Prop :=
  1 ≤ p.tickDivisor.toNat ∧ p.tickDivisor.toNat ≤ 4096 ∧ 1 ≤ p.windowLimit.toNat
    ∧ ∀ i ∈ channels, 1 ≤ (p.chans.get i).quota.toNat
  deriving Decidable

/-- Contents in range that pass the check, under a nonzero revision: what a READY slot and the active profile hold. -/
def checkedProfile (revision : BitVec 16) (p : Profile) : Prop :=
  p.inRange ∧ checkProfile p = none ∧ revision ≠ 0
  deriving Decidable

/-- A slot is READY. -/
def Slot.isReady : Slot → Bool
  | .empty => false
  | .draft _ _ => false
  | .ready _ _ => true

/-- A slot holds only what the rules let into it: fields in range (R97, R100), and, when READY, contents that pass the
check under a nonzero revision (R96, R104). -/
def Slot.sound (slot : Slot) : Prop :=
  (∀ p ∈ slot.contents, p.inRange)
    ∧ (slot.isReady = true → ∀ p ∈ slot.contents, checkedProfile slot.revision p)
  deriving Decidable

/-- The Profile Store and the active profile: sound slots, a pending selection that names a READY slot (R105), and an
active profile that passed the check under a nonzero revision (R110). -/
def State.profilesSound (s : State) : Prop :=
  (∀ k ∈ ([0, 1, 2, 3] : List (Fin 4)), (s.store.slots.get k).sound)
    ∧ (∀ k ∈ s.store.selected, (s.store.slots.get k).isReady = true)
    ∧ (∀ a ∈ s.engine.active, checkedProfile a.revision a.profile)
  deriving Decidable

/-! ### The Result Queue -/

/-- The pools are what the records in the queue reserve, and within their capacities; cycle numbers are unique; every
record in the queue carries its count of records lost before it (R114, R116, R121). -/
def ResultQueue.sound (q : ResultQueue) : Prop :=
  q.used.records = q.entries.length ∧ q.used.entries = entryCosts q.entries ∧ q.used.traces = traceCosts q.entries
    ∧ q.used.records ≤ Config.recordCapacity ∧ q.used.entries ≤ Config.entryCapacity
    ∧ q.used.traces ≤ Config.traceCapacity ∧ (q.entries.map fun e => e.record.number).Nodup
    ∧ ∀ e ∈ q.entries, e.record.lostBefore.isSome = true
  deriving Decidable

/-! ### The Host Link -/

/-- The session is OPEN. -/
def Session.isOpen : Session → Bool
  | .closed => false
  | .opened _ => true
  | .suspended _ => false

/-- The queues of the Host Link keep within their capacities (R141, R146, R148, R162, R163). -/
def HostLink.withinCapacities (l : HostLink) : Prop :=
  l.intake.length ≤ Config.intakeCapacity ∧ l.replies.length ≤ Config.replyCapacity
    ∧ l.cache.length ≤ Config.cacheCapacity ∧ l.window.length ≤ Config.windowCapacity
    ∧ l.events.length ≤ Config.eventCapacity
  deriving Decidable

/-- The requests that wait are different requests, and the replies that some of them found in the cache at their hand-on are
different ones, each of a request that waits (R146, R174). -/
def HostLink.requestsDistinct (l : HostLink) : Prop :=
  (l.intake.map fun w => (w.seq, w.code)).Nodup ∧ (l.copies.map fun e => (e.seq, e.code)).Nodup
    ∧ ∀ e ∈ l.copies, ∃ w ∈ l.intake, w.seq = e.seq ∧ w.code = e.code
  deriving Decidable

/-- The Host Link keeps within its capacities, and its waiting requests are different ones (R146); held reports occupy different slots at attempt counts 1 to 4; a report
timer runs only while the session is OPEN; and while it is CLOSED no report is queued or held (R153, R163, R166,
R167). -/
def HostLink.sound (l : HostLink) : Prop :=
  l.withinCapacities ∧ l.requestsDistinct ∧ (l.window.map HeldReport.slot).Nodup
    ∧ (∀ h ∈ l.window, 1 ≤ h.attempts ∧ h.attempts ≤ Config.maxAttempts)
    ∧ (l.session.isOpen = false → ∀ h ∈ l.window, h.timer = none)
    ∧ (l.session = .closed → l.window = [] ∧ l.events = [])
  deriving Decidable

/-! ### Channel entries and records -/

/-- Times in non-decreasing order. -/
def ascendingTicks (l : List Ticks) : Prop := l.Pairwise fun a b => a.toNat ≤ b.toNat
  deriving Decidable

/-- First-edge and last-edge ticks are both present exactly when an edge was counted, and in order, none later than
`latest` (R72). -/
def timesSound (edgeCount : Byte) (first last : Option Ticks) (latest : Ticks) : Prop :=
  (first.isSome = true ↔ edgeCount ≠ 0) ∧ (last.isSome = true ↔ edgeCount ≠ 0)
    ∧ (first.getD 0).toNat ≤ (last.getD 0).toNat ∧ (last.getD 0).toNat ≤ latest.toNat
  deriving Decidable

/-- A trace list holds at most 8 times, none later than `latest`, in non-decreasing order (R66). -/
def traceSound (trace : List Ticks) (latest : Ticks) : Prop :=
  trace.length ≤ Config.traceDepth ∧ ascendingTicks trace ∧ (trace.all fun x => decide (x.toNat ≤ latest.toNat)) = true
  deriving Decidable

/-- A channel entry of a record with the given close ticks (R72, R73): the edge count is at most the quota and equals
it exactly when the outcome is DONE; the times and the trace are sound. -/
def ChannelEntry.sound (closeTicks : Ticks) (e : ChannelEntry) : Prop :=
  e.edgeCount.toNat ≤ e.quota.toNat ∧ (e.outcome = .done ↔ e.edgeCount = e.quota)
    ∧ timesSound e.edgeCount e.firstTicks e.lastTicks closeTicks ∧ ∀ t ∈ e.trace, traceSound t closeTicks
  deriving Decidable

/-- What a record's outcome says of its entries and its close ticks (R43). -/
def CycleRecord.outcomeSound (r : CycleRecord) : Prop :=
  (r.outcome = .complete → ∀ e ∈ r.entries, e.outcome = .done)
    ∧ (r.outcome = .partly → r.closeTicks = r.windowLimit ∧ (∀ e ∈ r.entries, e.outcome ≠ .aborted)
        ∧ ∃ e ∈ r.entries, e.outcome = .overrun)
    ∧ (r.outcome = .aborted .host ∨ r.outcome = .aborted .restart →
        (∀ e ∈ r.entries, e.outcome ≠ .overrun) ∧ ∃ e ∈ r.entries, e.outcome = .aborted)
  deriving Decidable

/-- A record (R43, R44, R72): close ticks within the window limit, at least one entry, the entries in ascending channel
order and sound, the outcome true of them, and a run number, an index and a revision that are not 0. -/
def CycleRecord.sound (r : CycleRecord) : Prop :=
  r.closeTicks.toNat ≤ r.windowLimit.toNat ∧ r.entries ≠ []
    ∧ (r.entries.map ChannelEntry.channel).Pairwise (fun a b => a.val < b.val)
    ∧ (∀ e ∈ r.entries, e.sound r.closeTicks) ∧ r.outcomeSound ∧ r.run ≠ 0 ∧ r.index ≠ 0 ∧ r.revision ≠ 0
  deriving Decidable

/-- A unit's edge count by its state, while its cycle is open (R64, R65, R72): none in BLANKED, fewer than the quota in
COUNTING, the quota in DONE. -/
def ChannelUnit.countFits (u : ChannelUnit) : Prop :=
  (u.state = .blanked → u.edgeCount = 0) ∧ (u.state = .counting → u.edgeCount.toNat < u.quota.toNat)
    ∧ (u.state = .done → u.edgeCount = u.quota) ∧ u.quota ≠ 0
  deriving Decidable

/-- A unit while its cycle is open, at an elapsed tick count (R72): its count fits its state; no edge is counted before
the blanking delay; the times and the trace are sound, the trace ending no later than the last edge. -/
def ChannelUnit.measures (elapsed : Ticks) (u : ChannelUnit) : Prop :=
  u.countFits ∧ (u.state ≠ .blanked → u.blanking.toNat ≤ elapsed.toNat)
    ∧ timesSound u.edgeCount u.firstTicks u.lastTicks elapsed
    ∧ (u.edgeCount ≠ 0 → u.blanking.toNat ≤ (u.firstTicks.getD 0).toNat)
    ∧ traceSound u.traceList (u.lastTicks.getD 0) ∧ (u.edgeCount = 0 → u.traceList = [])
  deriving Decidable

/-- An open cycle over its units (R41, R72): the elapsed tick counter within the window limit, every unit of the set
measuring soundly, one of them not yet concluded, and its numbers not 0. -/
def OpenCycle.sound (elapsed : Ticks) (units : Twelve ChannelUnit) (oc : OpenCycle) : Prop :=
  elapsed.toNat ≤ oc.windowLimit.toNat
    ∧ (∀ i ∈ channels, inSet oc.channelSet i = true → (units.get i).measures elapsed)
    ∧ (∃ i ∈ channels, inSet oc.channelSet i = true ∧ (units.get i).state.concluded = false)
    ∧ oc.run ≠ 0 ∧ oc.index ≠ 0 ∧ oc.revision ≠ 0
  deriving Decidable

/-- The open cycle and every record the part holds, waiting or queued, are sound, and the run number is not 0 outside
IDLE (R43, R72, R80). -/
def State.recordsSound (s : State) : Prop :=
  (∀ oc ∈ s.engine.cycle, oc.sound s.time.elapsed s.units)
    ∧ (s.engine.state ≠ .idle → s.engine.runNumber ≠ 0)
    ∧ (∀ r ∈ s.engine.closeBuffer, r.record.sound)
    ∧ (∀ e ∈ s.queue.entries, e.record.sound)
  deriving Decidable

/-- While a run of nonzero length goes on, its cycles done are fewer than its length (R81). -/
def State.runBounded (s : State) : Prop :=
  s.engine.state ≠ .idle → s.profile.runLength ≠ 0 → s.engine.cyclesDone.toNat < s.profile.runLength.toNat
  deriving Decidable

/-! ### How the claims speak of a line, a request and a reply -/

/-- A transition of a line can be sampled now: events happen, and the line has made none in this base period (R1, R3,
R14). -/
def State.canMove (s : State) (line : Line) : Prop := s.live = true ∧ line ∉ s.sampled.moved
  deriving Decidable

/-- A transition command on a line takes its transition whole: sampled, judged and received (R17, R23, R24). The other
ways a command can take it are stages of this one (assumption 3). -/
def State.movesWhole (s : State) (line : Line) : Prop := s.canMove line ∧ s.taking = .whole
  deriving Decidable

/-- What sampling has found, with the one transition of a line added (R3). -/
def Sampling.withMoved (m : Sampling) (line : Line) : Sampling := { m with moved := m.moved ++ [line] }

/-- The transition now sampled on a line is an edge: the line is conditioned and its selection takes the new level
(R16, R25). -/
def LineState.seesEdge (l : LineState) : Bool :=
  l.conditioned
    && match l.edge with
      | .rising => !l.level
      | .falling => l.level
      | .both => true

/-- The transition that brought a line to its present level is an edge (R16, R25). -/
def LineState.sawEdge (l : LineState) : Bool :=
  l.conditioned
    && match l.edge with
      | .rising => l.level
      | .falling => !l.level
      | .both => true

/-- An edge sampled now lies at least the line's spacing after the last accepted edge, if the filter holds one (R17). -/
def LineState.spaced (l : LineState) (now : Epoch) : Bool :=
  match l.filter with
  | none => true
  | some e => decide (l.spacing.toNat ≤ (now - e).toNat)

/-- A request stands first in the intake queue and can be taken now (R147). -/
def State.takes (s : State) (r : Request) (rest : List Request) : Prop :=
  s.pins.refclk = true ∧ s.held = false ∧ s.link.intake = r :: rest ∧ s.link.replies.length < 4
    ∧ s.link.resetTaken = none ∧ s.link.clearDue = false
  deriving Decidable

/-- No reply that is cached, or that was when the request's frame was handed on, carries the request's sequence number and
code (R147, R148, R174). -/
def HostLink.noReplyFor (l : HostLink) (r : Request) : Prop :=
  (∀ e ∈ l.cache, ¬ (e.seq = r.seq ∧ e.code = r.code)) ∧ ∀ e ∈ l.copies, ¬ (e.seq = r.seq ∧ e.code = r.code)
  deriving Decidable

/-- The request can be taken, no cached reply answers it, and it passes the common checks: it will be carried out
(R147, R150). -/
def State.carriesOut (s : State) (r : Request) (rest : List Request) : Prop :=
  s.takes r rest ∧ s.link.noReplyFor r ∧ commonChecks r s.link.session = none
  deriving Decidable

/-- The state with the request taken and its reply completed: the reply stands at the tail of the reply queue, and the
reply cache holds it with the three before it (R141, R147, R148). -/
def State.answeredWith (s : State) (r : Request) (rest : List Request) (status : Status) (detail : Byte)
    (body : List Byte) : State :=
  { s with link := { s.link with
      intake := rest
      replies := s.link.replies ++ [⟨⟨r.seq, r.code, status, detail, body⟩, false⟩]
      cache := (s.link.cache ++ [(⟨r.seq, r.code, status, detail, body⟩ : Reply)]).drop (s.link.cache.length - 3) } }

/-! ### How the claims speak of a cycle -/

/-- A cycle begins between `s` and `t` by a start of the given form under the active profile `a`: the counters restart,
the next cycle number is given out and the cycle's fields latched, the filters of the conditioned stop lines clear, and
each unit of the set measures afresh, with the early count `early` gives it (R20, R29, R32, R33, R61, R63). -/
def beginsCycle (src : StartTaken) (a : ActiveProfile) (early : Channel → Byte) (s t : State) : Prop :=
  t.time = { s.time with tickRunning := true, phase := 0, elapsed := 0, counting := true }
    ∧ t.engine.state = .measuring ∧ t.engine.cycleCounter = s.engine.cycleCounter + 1
    ∧ t.engine.cycle = some
        { number := s.engine.cycleCounter + 1, run := s.engine.runNumber,
          index := if s.engine.cyclesDone = 0xFFFF then 0xFFFF else s.engine.cyclesDone + 1,
          slot := a.slot, revision := a.revision, source := src, stamp := s.time.epoch,
          divisor := a.profile.tickDivisor, windowLimit := a.profile.windowLimit,
          channelSet := a.profile.channelSet }
    ∧ t.engine.overlaps = 0
    ∧ (∀ i, t.inputs.stops.get i =
        if (s.inputs.stops.get i).conditioned = true then { s.inputs.stops.get i with filter := none }
        else s.inputs.stops.get i)
    ∧ (∀ i, inSet a.profile.channelSet i = false → t.units.get i = s.units.get i)
    ∧ ∀ i, inSet a.profile.channelSet i = true → t.units.get i =
        { state := if (a.profile.chans.get i).blanking = 0 then .counting else .blanked, cycleOpen := true,
          quota := (a.profile.chans.get i).quota, blanking := (a.profile.chans.get i).blanking,
          trace := (a.profile.chans.get i).trace, edgeCount := 0, firstTicks := none, lastTicks := none,
          traceList := [], early := early i, blanked := 0, rejected := 0, trailing := 0,
          blankingTimer := !decide ((a.profile.chans.get i).blanking = 0) }

/-- A unit that has not concluded takes the outcome given, its blanking timer stopping (R69, R70). -/
def forcedUnit (how : UnitState) (u : ChannelUnit) : ChannelUnit :=
  if u.state = .blanked ∨ u.state = .counting then { u with state := how, blankingTimer := false } else u

/-- The close reaches a unit (R42, R71), whose settings fields keep what they held (assumption 11). -/
def shutUnit (u : ChannelUnit) : ChannelUnit := { u with cycleOpen := false, blankingTimer := false }

/-- The record a close builds from the open cycle, the overlap and missed-start counts, the close ticks and the units as concluded
(R42, R43, R44). -/
def closedRecord (outcome : CycleOutcome) (oc : OpenCycle) (overlaps : Byte) (missed : BitVec 16) (closeTicks : Ticks)
    (unit : Channel → ChannelUnit) : CycleRecord where
  number := oc.number
  run := oc.run
  index := oc.index
  slot := oc.slot
  revision := oc.revision
  source := oc.source
  stamp := oc.stamp
  divisor := oc.divisor
  windowLimit := oc.windowLimit
  outcome := outcome
  closeTicks := closeTicks
  overlaps := overlaps
  missedBefore := missed
  lostBefore := none
  entries := (setMembers oc.channelSet).map fun i => channelEntry i (unit i)

/-- The cost of a closed record: an entry for each channel of the set, and 8 timestamps for each with trace on (R116). -/
def closedCost (oc : OpenCycle) (unit : Channel → ChannelUnit) : Cost where
  entries := (setMembers oc.channelSet).length
  traces := 8 * ((setMembers oc.channelSet).filter fun i => (unit i).trace).length

/-- A record of this cost and cycle number can be admitted (R116). -/
def ResultQueue.hasRoom (q : ResultQueue) (c : Cost) (number : BitVec 32) : Prop :=
  q.used.records + 1 ≤ 24 ∧ q.used.entries + c.entries ≤ 160 ∧ q.used.traces + c.traces ≤ 192
    ∧ ∀ e ∈ q.entries, e.record.number ≠ number
  deriving Decidable

/-- The queue with a record admitted (R116). -/
def ResultQueue.plus (q : ResultQueue) (r : CycleRecord) (c : Cost) (created : Epoch) : ResultQueue where
  entries := q.entries ++ [⟨{ r with lostBefore := some q.pendingLoss }, false, c, created⟩]
  used := ⟨q.used.records + 1, q.used.entries + c.entries, q.used.traces + c.traces⟩
  pendingLoss := 0
  totalAdmitted := q.totalAdmitted + 1
  totalLost := q.totalLost

/-- The queue with a record counted lost (R118, R119). -/
def ResultQueue.minus (q : ResultQueue) : ResultQueue :=
  { q with
    pendingLoss := if q.pendingLoss = 0xFFFF then 0xFFFF else q.pendingLoss + 1
    totalLost := q.totalLost + 1 }

/-- The part once a cycle has closed and before its record is admitted (R42): the counters stopped, no cycle open, the
missed-start count moved into the record, and the units of the set as `after` gives them, their cycle no longer open. -/
def closedState (oc : OpenCycle) (after : Channel → ChannelUnit) (s : State) : State :=
  { s with
    time := { s.time with tickRunning := false, counting := false }
    engine := { s.engine with cycle := none, missed := 0 }
    units := Twelve.ofFn fun i => if inSet oc.channelSet i = true then shutUnit (after i) else s.units.get i }

/-- The three answers to an admission request, from the closed state `c` to `t` (R36, R45, R116 to R118): with room the record
joins the queue and the after-close sequence follows; refused under HOLD it waits, the engine STALLED, STALL "entered"
passed and a restarting start counted as missed; under DISCARD it is counted lost, and the sequence follows, the LOSS
entering the event report queue before, among or after the events of the sequence, which keep their order (R161,
assumption 25). -/
def admissionAnswers (r : ClosedRecord) (restart : Option StartTaken) (full : FullPolicy) (c t : State) : Prop :=
  (c.queue.hasRoom r.cost r.record.number →
    t = afterClose r.record.outcome restart { c with queue := c.queue.plus r.record r.cost r.created })
  ∧ (¬ c.queue.hasRoom r.cost r.record.number → full = .hold →
    t = { c with
      engine := { c.engine with
        state := .stalled
        closeBuffer := some r
        missed := if restart = none then c.engine.missed else satInc c.engine.missed }
      link := postEvent c.now (.stall false r.record.number) c.link })
  ∧ (¬ c.queue.hasRoom r.cost r.record.number → full = .discard →
    ∃ sequence before later,
      sequence = afterCloseSequence r.record.outcome restart { c with queue := c.queue.minus }
      ∧ sequence.events = before ++ later
      ∧ t = { sequence.state with
          link := (before ++ .loss r.record.number .full r.record.missedBefore :: later).foldl
            (fun l e => postEvent c.now e l) c.link
          choices := t.choices })

/-- A unit after a counted edge of the given time (R64, R65, R66). -/
def countedUnit (time : Ticks) (u : ChannelUnit) : ChannelUnit :=
  { u with
    edgeCount := u.edgeCount + 1
    firstTicks := if u.edgeCount = 0 then some time else u.firstTicks
    lastTicks := some time
    traceList := if u.trace = true ∧ u.traceList.length < 8 then u.traceList ++ [time] else u.traceList
    state := if u.edgeCount + 1 = u.quota then .done else .counting }

/-- A unit after an edge of the given time has reached it (R57, R60, R62, R64, R67, R68). A qualified edge is early in
PRIMED, blanked in BLANKED, counted in COUNTING, and trailing in DONE with the cycle open; a rejected edge is counted in
BLANKED, COUNTING, and DONE with the cycle open; every other unit ignores the edge. -/
def edgeAt (accepted : Bool) (time : Ticks) (u : ChannelUnit) : ChannelUnit :=
  if accepted = true then
    if u.state = .primed then { u with early := satInc u.early }
    else if u.state = .blanked then { u with blanked := satInc u.blanked }
    else if u.state = .counting then countedUnit time u
    else if u.state = .done ∧ u.cycleOpen = true then { u with trailing := satInc u.trailing }
    else u
  else if u.state = .blanked ∨ u.state = .counting ∨ (u.state = .done ∧ u.cycleOpen = true) then
    { u with rejected := satInc u.rejected }
  else u

/-- A line once its transition has been judged at epoch `now`: an accepted edge holds the filter (R17, R18). -/
def judgedLine (now : Epoch) (l : LineState) : LineState :=
  if l.sawEdge = true ∧ l.spaced now = true then { l with filter := some now } else l

/-- The event that judging a line's transition makes, with the edge's direction, which is the level the line has come to: none
where it is no edge (R16, R17). -/
def edgeOf (line : Line) (now : Epoch) (l : LineState) : List HeldEdge :=
  if l.sawEdge = true then [⟨line, l.level, l.spaced now⟩] else []

/-- Some of the stop transitions and edges of this base period that wait in `s` are taken, and `t` is reached (R21, R22, R24,
R76, R78): of the lines whose transitions wait, some are judged; of the channels, some have their judged edges reach
their units; nothing else changes, and where no stop edge waits nothing changes at all. -/
def edgesTaken (s t : State) : Prop :=
  ∃ judged received : Channel → Bool, ∃ held : List HeldEdge,
    (∀ i, judged i = true → .stop i ∈ s.sampled.unjudged)
    ∧ (∀ i, t.inputs.stops.get i =
        if judged i = true then judgedLine s.now (s.inputs.stops.get i) else s.inputs.stops.get i)
    ∧ held = s.sampled.judged
        ++ ((channels.filter judged).flatMap fun i => edgeOf (.stop i) s.now (s.inputs.stops.get i))
    ∧ (∀ i, t.units.get i =
        if received i = true then
          (held.filter fun e => decide (e.line = .stop i)).foldl (fun u e => edgeAt e.accepted s.time.elapsed u) (s.units.get i)
        else s.units.get i)
    ∧ t = { s with
        inputs := { s.inputs with stops := t.inputs.stops }
        units := t.units
        sampled := { s.sampled with
          unjudged := s.sampled.unjudged.filter fun l => !channels.any fun i => judged i && decide (l = .stop i)
          judged := held.filter fun e => !channels.any fun i => received i && decide (e.line = .stop i) }
        choices := t.choices }
    ∧ ((∀ i, .stop i ∉ s.sampled.unjudged) → (∀ e ∈ s.sampled.judged, e.line = .start) → t = s)

/-- The engine enters ARMED (R58): the units of the set are PRIMED with early counts of 0 and the others OFF. That
a PRIMED unit's settings fields keep what they held is the model's choice (assumption 11). -/
def primesUnits (set : ChannelSet) (s t : State) : Prop :=
  (∀ i, t.units.get i =
      if inSet set i = true then { s.units.get i with state := .primed, early := 0, cycleOpen := false }
      else ChannelUnit.offUnit)
    ∧ t = { s with engine := { s.engine with state := .armed, holdoffTimer := none }, units := t.units }

/-- ARMED is entered between `s` and `t` under the active profile `a` (R31, R58, R76, R78): the units are primed, and under
IMMEDIATE the engine then takes a start of its own. Stop edges of the same base period that wait may be taken before the
entry, and under IMMEDIATE while the units are PRIMED. -/
def entersArmed (a : ActiveProfile) (s t : State) : Prop :=
  ∃ before primed, edgesTaken s before ∧ primesUnits a.profile.channelSet before primed
    ∧ (a.profile.startSource ≠ .immediate → t = primed)
    ∧ (a.profile.startSource = .immediate →
      ∃ c, edgesTaken primed c ∧ beginsCycle .immediate a (fun i => (c.units.get i).early) c t
        ∧ t = { c with
            time := t.time
            inputs := { c.inputs with stops := t.inputs.stops }
            engine := { c.engine with
              state := t.engine.state, cycleCounter := t.engine.cycleCounter, cycle := t.engine.cycle, overlaps := 0 }
            units := t.units })

/-- The conditioning of a line under a profile: its level kept, its filter cleared (R15, R19). -/
def conditionedAs (l : LineState) (on : Bool) (edge : EdgeSelection) (spacing : BitVec 16) : LineState :=
  { l with conditioned := on, edge := edge, spacing := spacing, filter := none }

/-- The lines under a profile (R15, R19): START always conditioned, a stop line when its channel is in the set. -/
def linesUnder (p : Profile) (s t : Conditioner) : Prop :=
  t.start = conditionedAs s.start true p.startEdge p.startSpacing
    ∧ (∀ i, t.stops.get i =
        conditionedAs (s.stops.get i) (inSet p.channelSet i) (p.chans.get i).stopEdge (p.chans.get i).spacing)

/-- The number of the next run (R80). -/
def nextRun (e : Engine) : BitVec 16 := if e.runNumber = 0xFFFF then 1 else e.runNumber + 1

/-- A pending selection of slot `k`, with revision `rev` and contents `p`, supersedes the run at an arming boundary, between
`s` and `t` (R15, R19, R80, R84): the slot becomes the active profile, the lines are conditioned under it, the run ends
SUPERSEDED and a new one begins, RUN_END before PROFILE_TAKEN, and ARMED is entered. -/
def supersedes (k : Fin 4) (rev : BitVec 16) (p : Profile) (s t : State) : Prop :=
  ∃ lines, linesUnder p s.inputs lines ∧ lines.rejectedStarts = s.inputs.rejectedStarts
    ∧ entersArmed ⟨k, rev, p⟩
        { s with
          inputs := lines
          engine := { s.engine with
            active := some ⟨k, rev, p⟩, runNumber := nextRun s.engine, cyclesDone := 0, stopRequest := false,
            endReason := none }
          store := { s.store with selected := none }
          link := postEvent s.now (.profileTaken k rev (nextRun s.engine))
            (postEvent s.now (.runEnd s.engine.runNumber .superseded s.engine.cyclesDone) s.link) } t

/-- The engine at the end of a run, which keeps the reason (R87). -/
def Engine.ended (e : Engine) (reason : RunEndReason) : Engine :=
  { e with state := .idle, stopRequest := false, holdoffTimer := none, endReason := some reason }

/-- Every unit is OFF, cleared (R59). The values of its settings fields are the model's choice (assumption 11). -/
def allOff : Twelve ChannelUnit :=
  ⟨.offUnit, .offUnit, .offUnit, .offUnit, .offUnit, .offUnit, .offUnit, .offUnit, .offUnit, .offUnit, .offUnit,
    .offUnit⟩

end Sys2Proof.Machine
end

