-- ==== Sys2Proof/Certificates/Slice0/Obligations.lean ====
section
/-! DEFINITION. The statements for the provers: one `def Obligations.<Name> : Prop` for each entry of
OBLIGATIONS.json. -/

section
open Sys2Proof Sys2Proof.Machine

/-! ### The step, time and the resets -/

/-- A command that the part carries out of its own accord in the present base period: a held epoch has reached its line's
spacing (R18), a blanking delay, the window or the holdoff has run out (R62, R41, R88), the timer of a held report has in an
OPEN session (R166, R167), the gap timer has inside a frame (R139), a frame's last base period has come (R133, R142), the
request reset is due (R158), or a request stands at the head of the intake queue and may be taken (R147), one that is no
LINK STATS. -/
def commandDue (s : State) (c : Instr) : Prop :=
  (∃ line e, c = .filterLapse line ∧ (s.inputs.line line).filter = some e
      ∧ (s.inputs.line line).spacing.toNat ≤ (s.now - e).toNat)
    ∨ (∃ ch, c = .blankingEnd ch ∧ (s.units.get ch).state = .blanked ∧ (s.units.get ch).blankingTimer = true
      ∧ (s.units.get ch).blanking.toNat ≤ s.time.elapsed.toNat)
    ∨ (∃ oc, c = .windowExpiry ∧ s.engine.state = .measuring ∧ s.time.counting = true ∧ s.engine.cycle = some oc
      ∧ oc.windowLimit.toNat ≤ s.time.elapsed.toNat)
    ∨ (c = .holdoffExpiry ∧ s.engine.state = .holdoff ∧ s.engine.holdoffTimer = some 0)
    ∨ (∃ h p, c = .reportTimeout h.slot ∧ s.link.session = .opened p ∧ h ∈ s.link.window ∧ h.timer = some 0)
    ∨ (c = .gapTimeout ∧ s.link.gapTimer = some 0
      ∧ ((∃ got crc, s.link.framer = .header got crc) ∨ ∃ h payload low crc, s.link.framer = .body h payload low crc))
    ∨ (∃ frame source, c = .frameSent ∧ s.link.transmitter = .sending frame 0 source)
    ∨ (c = .requestReset s.pins.baud1 s.pins.baud0 ∧ s.link.resetDue = true)
    ∨ (∃ r rest, c = requestCommand r.code ∧ s.takes r rest ∧ r.code ≠ 0x05)

/-- What the part can do of its own accord in the present base period, beside the commands that are due: judge a transition
and hand on an edge that wait (R17, R23, R24), take what the character receiver found (R132), take a LINK STATS or do the
clearing it has left (R145), and choose the next frame (R142). -/
def doneNow (s : State) : Internal → Prop
  | .judge line => line ∈ s.sampled.unjudged
  | .receive e => e ∈ s.sampled.judged
  | .found c => c ∈ s.sampled.found
  | .due c => commandDue s c
  | .readStats => ∃ r rest, s.takes r rest ∧ r.code = 0x05
  | .clearStats => s.link.clearDue = true
  | .choose => (arbiterChoice s).isSome = true

/-- One step takes the command at the front of the queue and carries it out on the state with the queue's rest. With no
command waiting it takes one of the things the part can do of its own accord in this base period, as long as there is one:
a due command is carried out, and what the character receiver found is carried out but for the level of the pin. The queue
is the model's own (assumption 2), and so is the counter that the choice among several reads (assumption 3). -/
def Obligations.StepRunsFrontCommand : Prop :=
  (∀ (s : State) (c : Instr) (rest : List Instr), s.pending = c :: rest → step s = exec c { s with pending := rest })
  ∧ (∀ (s : State), s.pending = [] → internals s ≠ [] →
    ∃ i ∈ internals s, step s = takeInternal i { s with choices := s.choices + 1 })
  ∧ (∀ (s : State) (i : Internal), i ∈ internals s ↔ s.live = true ∧ doneNow s i)
  ∧ (∀ (s : State) (c : Instr), takeInternal (.due c) s = exec c s)
  ∧ (∀ (s t : State) (c : Instr),
    exec c { s with sampled := { s.sampled with found := s.sampled.found.erase c } } = .next t →
    takeInternal (.found c) s = .next { t with pins := s.pins })

/-- With no command waiting and nothing due, one base period passes: the epoch counter, the tick generator, the elapsed
tick counter and the timers move as R2, R4, R6, R10 and R11 say; every line is sampled and those found changed wait to be
judged (R14); RXD is sampled once by the character receiver (R132); the transmitter comes one base period nearer the
frame's end, a frame chosen in the base period now past having begun in it (R133, R142); every other count, mode, slot and
record stays, and only how the transition commands of the new base period are taken is left free (assumption 3). That a
step with an empty queue is a base period is the model's choice (assumption 2). -/
def Obligations.BasePeriodMovesTheTimers : Prop :=
  ∀ (s : State), s.pending = [] → s.live = true → s.pins.resetN = true → internals s = [] →
    ∃ t, step s = .next t ∧ t.time.epoch = s.time.epoch + 1
      ∧ (s.time.tickRunning = false → t.time = { s.time with epoch := s.time.epoch + 1 })
      ∧ (∀ oc, s.engine.cycle = some oc → s.time.tickRunning = true →
          t.time.tickRunning = true ∧ t.time.counting = s.time.counting
            ∧ (s.time.phase.toNat + 1 < oc.divisor.toNat → t.time.phase = s.time.phase + 1 ∧ t.time.elapsed = s.time.elapsed)
            ∧ (oc.divisor.toNat ≤ s.time.phase.toNat + 1 → t.time.phase = 0
                ∧ t.time.elapsed = if s.time.counting = true then s.time.elapsed + 1 else s.time.elapsed))
      ∧ t.inputs.start = { s.inputs.start with level := s.pins.start }
      ∧ (∀ i, t.inputs.stops.get i = { s.inputs.stops.get i with level := s.pins.stops.get i })
      ∧ t.inputs.rejectedStarts = s.inputs.rejectedStarts
      ∧ (∀ line, line ∈ t.sampled.moved ↔ s.pins.lineLevel line ≠ (s.inputs.line line).level)
      ∧ t.sampled.unjudged = t.sampled.moved ∧ t.sampled.moved.Nodup ∧ t.sampled.judged = []
      ∧ (t.link.receiver, t.sampled.found) = sampleReceiver s.link.divisor s.pins.rxd s.link.receiver
      ∧ (s.link.transmitter = .idle ∨ s.link.transmitter = .ended → t.link.transmitter = .idle)
      ∧ (∀ frame n source, s.link.transmitter = .sending frame (n + 1) source →
          t.link.transmitter = .sending frame n source)
      ∧ (∀ frame slot before, s.link.transmitter = .chosen frame slot before →
          t.link.transmitter = .sending frame (10 * s.link.divisor * frame.length - 1 - 1) (.report slot))
      ∧ t.link = { s.link with
          receiver := t.link.receiver
          gapTimer := s.link.gapTimer.map fun n => n - 1
          transmitter := t.link.transmitter
          window := s.link.window.map fun h => { h with
            timer := h.timer.map fun n => n - 1
            due := if h.due = .justTimed then .byTimer else h.due } }
      ∧ t = { s with
          time := t.time
          inputs := t.inputs
          engine := { s.engine with holdoffTimer := s.engine.holdoffTimer.map fun n => n - 1 }
          link := t.link
          sampled := t.sampled
          taking := t.taking
          choices := t.choices }

/-- The character receiver over several samples of RXD, one in each base period, and what it finds (R132). -/
def samplesAll (divisor : Nat) : List Bool → Receiver → Receiver × List Instr
  | [], r => (r, [])
  | high :: levels, r =>
    let a := sampleReceiver divisor high r
    let b := samplesAll divisor levels a.1
    (b.1, a.2 ++ b.2)

/-- The receive line (R13, R131, R132), at the rate in force and from a receiver that has sampled the line high. A
character of ten bit times, start bit low, data bits least significant first, stop bit high, is one byte received. A low no
longer than half a bit time is a glitch. A low that lasts past the middle of the tenth bit time and less than two character
times is a bad character, and one that lasts two character times is a break. A receiver that waits for the line to go high
finds nothing while it is low, and finds it high again when it is sampled high. That a line first high when exactly two
character times have passed has been a break is the model's reading of R13, and that the two character times count from the
beginning of the start bit, as R132 has it and R13 does not, is its reading too (assumption 15).

The transmit line (R13, R131, R133): TXD is high while no frame is being sent. In the base period with this many before it
since a frame began, it has the level of that bit of that byte, ten bits to a byte and the divisor's base periods to a bit:
the start bit low, the data bits least significant first, the stop bit high. A frame chosen in the base period of its
report's expiry begins its first start bit then (assumption 26). -/
def Obligations.CharactersPassBitByBit : Prop :=
  (∀ (l : HostLink) (b : Byte) (n : Nat) (level : Bool),
    samplesAll l.divisor ((List.range (10 * l.divisor)).map fun k =>
        if k / l.divisor = 0 then false else if k / l.divisor = 9 then true else b.getLsbD (k / l.divisor - 1)) (.waiting true)
      = (.waiting true, [.byteReceived b])
    ∧ (n ≤ l.divisor / 2 →
      samplesAll l.divisor (List.replicate n false ++ List.replicate l.divisor true) (.waiting true) = (.waiting true, []))
    ∧ (9 * l.divisor + l.divisor / 2 < n → n < 20 * l.divisor →
      samplesAll l.divisor (List.replicate n false ++ [true]) (.waiting true)
        = (.waiting true, [.framingError .badCharacter]))
    ∧ (samplesAll l.divisor (List.replicate (20 * l.divisor) false ++ [level]) (.waiting true)).2 = [.lineBreak]
    ∧ samplesAll l.divisor (List.replicate n false) (.waiting false) = (.waiting false, [])
    ∧ sampleReceiver l.divisor true (.waiting false) = (.waiting false, [.receiveLineHighAgain]))
  ∧ (∀ (s : State), s.link.transmitter = .idle ∨ s.link.transmitter = .ended → s.txd = true)
  ∧ (∀ (s : State) (frame : List Byte) (source : FrameSource) (byte bit k : Nat) (b : Byte),
    s.link.transmitter = .sending frame
        (10 * s.link.divisor * frame.length - 1 - ((10 * byte + bit) * s.link.divisor + k)) source →
    frame[byte]? = some b → bit < 10 → k < s.link.divisor →
    s.txd = if bit = 0 then false else if bit = 9 then true else b.getLsbD (bit - 1))
  ∧ ∀ (s : State) (frame : List Byte) (slot : Fin 4) (before : BitVec 32),
    s.link.transmitter = .chosen frame slot before → s.txd = false

/-- Every block at the values R56, R57, R79, R95, R114, R144 and Tables 1-4, 2-1 and 9-3 give after a reset, but for
the reset cause, the straps, the character receiver and the levels of the lines. No run has ended, so no run end reason is
kept (assumption 27). -/
def resetValues (t : State) : Prop :=
  t.time = { epoch := 0, tickRunning := false, phase := 0, elapsed := 0, counting := false }
    ∧ t.engine =
        { state := .idle, cycleCounter := 0, cycle := none, overlaps := 0, missed := 0, closeBuffer := none, active := none,
          runNumber := 0, cyclesDone := 0, stopRequest := false, holdoffTimer := none, endReason := none }
    ∧ t.units = allOff ∧ (∀ k, t.store.slots.get k = .empty) ∧ t.store.selected = none
    ∧ t.queue = { entries := [], used := ⟨0, 0, 0⟩, pendingLoss := 0, totalAdmitted := 0, totalLost := 0 }
    ∧ t.inputs.rejectedStarts = 0
    ∧ t.inputs.start = { t.inputs.start with conditioned := true, edge := .rising, spacing := 0, filter := none }
    ∧ (∀ i, t.inputs.stops.get i =
        { t.inputs.stops.get i with conditioned := true, edge := .rising, spacing := 0, filter := none })
    ∧ t.link = { t.link with
        framer := .hunt, gapTimer := none, intake := [], copies := [], replies := [], cache := [], transmitter := .idle,
        session := .closed, window := [], reportSeq := 0, events := [], dropped := 0,
        stats := ⟨0, 0, 0, 0, 0, 0, 0, 0, 0, 0, 0, 0, 0⟩, resetTaken := none, resetDue := false, clearDue := false }

/-- The part held in reset, as it is reached from `s` (R14, R131, R156): every block at its reset values, TXD high, each
line keeping its sampled level. The reset cause and the straps in force stay as they were (assumption 12), and the character
receiver has not sampled RXD high (assumption 17). -/
def heldInReset (s t : State) : Prop :=
  resetValues t ∧ t.held = true ∧ t.txd = true
    ∧ t.inputs.start.level = s.inputs.start.level
    ∧ (∀ i, (t.inputs.stops.get i).level = (s.inputs.stops.get i).level)
    ∧ t.link.receiver = .waiting false
    ∧ t.link.cause = s.link.cause ∧ t.link.baud1 = s.link.baud1 ∧ t.link.baud0 = s.link.baud0
    ∧ t.pending = s.pending ∧ t.taking = s.taking ∧ t.choices = s.choices ∧ t.sampled = ⟨[], [], [], []⟩

/-- The part in the first base period after a pin reset, at the levels its pins then have (R14, R131, R156, R159): every
block at its reset values, the straps, the lines and RXD sampled, the reset cause PIN. -/
def releasedFromReset (s t : State) : Prop :=
  resetValues t ∧ t.held = false ∧ t.txd = true
    ∧ t.inputs.start.level = t.pins.start ∧ (∀ i, (t.inputs.stops.get i).level = t.pins.stops.get i)
    ∧ t.link.receiver = .waiting t.pins.rxd
    ∧ t.link.cause = .pin ∧ t.link.baud1 = t.pins.baud1 ∧ t.link.baud0 = t.pins.baud0
    ∧ t.pending = s.pending ∧ t.taking = s.taking ∧ t.choices = s.choices ∧ t.sampled = ⟨[], [], [], []⟩

/-- PIN_RESET and RESET_N_RELEASE (R14, R131, R156, R159): while REFCLK runs, RESET_N sampled low puts every block at its
reset values and holds it there, through every base period in which it is low, the epoch counter at 0; at the release the
straps and the lines are sampled and the reset cause is PIN. A base period that samples RESET_N low, or high again, does
what the command does. That the reset cause and the straps in force change only at the release is the model's choice
(assumption 12), and so are the character receiver's state, which has not sampled RXD high until the release samples it
(assumption 17), and the epoch counter's value of 0 in the first base period after the release (assumption 16). What the
settings fields of OFF units hold is the model's choice (assumption 11). -/
def Obligations.PinResetHoldsUntilRelease : Prop :=
  (∀ (s : State), s.pins.refclk = true →
    ∃ t, exec .pinReset s = .next t ∧ heldInReset s t ∧ t.pins = { s.pins with resetN := false })
  ∧ (∀ (s : State), s.pending = [] → s.pins.refclk = true → s.pins.resetN = false → (s.held = true ∨ internals s = []) →
    ∃ t, step s = .next t ∧ heldInReset s t ∧ t.pins = s.pins)
  ∧ (∀ (s : State) (b1 b0 : Bool), s.pins.refclk = true → s.held = true →
    ∃ t, exec (.resetNRelease b1 b0) s = .next t ∧ releasedFromReset s t
      ∧ t.pins = { s.pins with resetN := true, baud1 := b1, baud0 := b0 })
  ∧ (∀ (s : State), s.pending = [] → s.pins.refclk = true → s.held = true → s.pins.resetN = true →
    ∃ t, step s = .next t ∧ releasedFromReset s t ∧ t.pins = s.pins)

/-- REQUEST_RESET (R131, R158, R159): when the DEVICE RESET reply has left, every block takes its reset values, each line
keeps its sampled level, the straps are sampled, the character receiver returns to waiting, and the reset cause is
REQUEST; a transition sampled in this base period and not yet judged still waits (assumption 3). That a character
completed in this base period may still reach the framer is the receiver state of assumption 17. In every other state the
command is not taken (assumption 4). What the settings fields of OFF units hold is the model's choice (assumption 11). -/
def Obligations.RequestResetTakesEffect : Prop :=
  ∀ (s : State) (b1 b0 : Bool),
    (s.live = true → s.link.resetDue = true →
      ∃ t, exec (.requestReset b1 b0) s = .next t ∧ resetValues t ∧ t.held = false
        ∧ t.pins = { s.pins with baud1 := b1, baud0 := b0 }
        ∧ t.inputs.start.level = s.inputs.start.level
        ∧ (∀ i, (t.inputs.stops.get i).level = (s.inputs.stops.get i).level)
        ∧ t.link.receiver = .restarted
        ∧ t.link.cause = .request ∧ t.link.baud1 = b1 ∧ t.link.baud0 = b0
        ∧ t.pending = s.pending ∧ t.taking = s.taking ∧ t.choices = s.choices
        ∧ t.sampled = { s.sampled with judged := [] })
    ∧ (s.link.resetDue = false → exec (.requestReset b1 b0) s = .next s)

/-- REFCLK_STOP and REFCLK_RESUME (R1) change whether the reference runs and nothing else. While it is stopped a step with
no command waiting leaves every block as it is. While it is stopped, or while RESET_N is held low, no command changes more
than the levels at the pins: no edge is sampled, no timer expires, no byte is received and no request is taken (R1, R156).
That PIN_RESET and RESET_N_RELEASE given while REFCLK is stopped only change the level of their pin, and take hold when a
base period samples it, is the model's reading (assumption 23), and so is that RESET_N held low leaves every other command
only its pin. -/
def Obligations.ClockStopsEverything : Prop :=
  (∀ (s : State),
    exec .refclkStop s = .next { s with pins := { s.pins with refclk := false } }
    ∧ exec .refclkResume s = .next { s with pins := { s.pins with refclk := true } }
    ∧ (s.pins.refclk = false → s.pending = [] → step s = .next s))
  ∧ (∀ (s t : State) (c : Instr),
    (s.pins.refclk = false ∨ (s.held = true ∧ c ≠ .pinReset ∧ ∀ b1 b0, c ≠ .resetNRelease b1 b0)) →
    exec c s = .next t → t = { s with pins := t.pins })

/-! ### Transitions on the measurement inputs -/

/-- A line sampled at its new level, the other lines as they were (R3, R14): its level at the pin and as sampled, and the
one transition of this base period. -/
def lineMoved (line : Line) (s t : State) : Prop :=
  t.inputs.line line = { s.inputs.line line with level := !(s.inputs.line line).level }
    ∧ (∀ other, other ≠ line → t.inputs.line other = s.inputs.line other)
    ∧ t.pins.lineLevel line = (!(s.inputs.line line).level)
    ∧ (∀ other, other ≠ line → t.pins.lineLevel other = s.pins.lineLevel other)
    ∧ t = { s with
        pins := { s.pins with start := t.pins.start, stops := t.pins.stops }
        inputs := { s.inputs with start := t.inputs.start, stops := t.inputs.stops }
        sampled := s.sampled.withMoved line }

/-- START_TRANSITION and STOP_TRANSITION that are no edge (R16, R25): the level changes and nothing else. START_TRANSITION
rejected (R17, R18, R23, R27): an edge nearer than the spacing to the last accepted one is counted in the rejected START
count, in every engine state, and leaves the filter state and the engine as they were. -/
def Obligations.UnqualifiedTransitionsMakeNoStart : Prop :=
  (∀ (s : State) (ch : Channel),
    (s.movesWhole .start → s.inputs.start.seesEdge = false →
      ∃ t, exec .startTransition s = .next t ∧ lineMoved .start s t)
    ∧ (s.movesWhole (.stop ch) → (s.inputs.stops.get ch).seesEdge = false →
      ∃ t, exec (.stopTransition ch) s = .next t ∧ lineMoved (.stop ch) s t))
  ∧ (∀ (s : State), s.movesWhole .start → s.inputs.start.seesEdge = true → s.inputs.start.spaced s.now = false →
    exec .startTransition s = .next { s with
      pins := { s.pins with start := !s.inputs.start.level }
      inputs := { s.inputs with
        start := { s.inputs.start with level := !s.inputs.start.level }
        rejectedStarts := if s.inputs.rejectedStarts = 0xFFFF then 0xFFFF else s.inputs.rejectedStarts + 1 }
      sampled := s.sampled.withMoved .start })

/-- An edge of a stop line that closes no cycle when it reaches its unit (R40, R64, R65): it is rejected, or the unit is not
COUNTING, or is one short of the quota or more, or the unit of another channel of the set has not yet concluded. -/
def leavesCycleOpen (accepted : Bool) (ch other : Channel) (s : State) : Prop :=
  accepted = false ∨ (s.units.get ch).state ≠ .counting ∨ (s.units.get ch).edgeCount + 1 ≠ (s.units.get ch).quota
    ∨ (other ≠ ch ∧ (s.units.get other).state.concluded = false
      ∧ ∀ oc, s.engine.cycle = some oc → inSet oc.channelSet other = true)

/-- A transition in its stages (R3, R14, R17, R21 to R24, R76, R78). How far a command takes it is free in each base period
(assumption 3). Sampled only, the line is at its new level and its
transition waits to be judged; sampled and judged, the filter has taken the edge and the event it makes waits for its
receiver, carrying the line, the edge's direction and whether it is accepted, its sample epoch being that of the present base
period. The part then judges and hands over what waits, other events of the base period falling between or not: a START
edge accepted is a start event of source EXTERNAL, one rejected is counted, and a stop edge reaches its unit in the state
it then has. With nothing between, the stages do what the whole command does. A second transition of the same line in the
same base period has no effect, which is the model's choice (assumption 14). -/
def Obligations.TransitionsAreTakenInStages : Prop :=
  (∀ (s : State) (line : Line) (c : Instr),
    (line = .start ∧ c = .startTransition ∨ ∃ ch, line = .stop ch ∧ c = .stopTransition ch) →
    (s.canMove line →
      ∃ m j, lineMoved line s m
        ∧ j.inputs.line line = judgedLine s.now (m.inputs.line line)
        ∧ (∀ other, other ≠ line → j.inputs.line other = m.inputs.line other)
        ∧ j = { m with
            inputs := { m.inputs with start := j.inputs.start, stops := j.inputs.stops }
            sampled := { m.sampled with judged := s.sampled.judged ++ edgeOf line s.now (m.inputs.line line) } }
        ∧ (s.taking = .sampled →
          exec c s = .next { m with sampled := { m.sampled with unjudged := s.sampled.unjudged ++ [line] } })
        ∧ (s.taking = .judged → exec c s = .next j)
        ∧ (line ∉ s.sampled.unjudged →
          takeInternal (.judge line)
              { m with sampled := { m.sampled with unjudged := s.sampled.unjudged ++ [line] } } = .next j)
        ∧ ((∀ e ∈ s.sampled.judged, e.line ≠ line) → (s.inputs.line line).seesEdge = true → s.taking = .whole →
          takeInternal (.receive ⟨line, !(s.inputs.line line).level, (s.inputs.line line).spaced s.now⟩) j = exec c s))
    ∧ (s.live = true → line ∈ s.sampled.moved → exec c s = .next s))
  ∧ (∀ (s : State) (line : Line), ∃ t, takeInternal (.judge line) s = .next t
    ∧ t.inputs.line line = judgedLine s.now (s.inputs.line line)
    ∧ (∀ other, other ≠ line → t.inputs.line other = s.inputs.line other)
    ∧ t = { s with
        inputs := { s.inputs with start := t.inputs.start, stops := t.inputs.stops }
        sampled := { s.sampled with
          unjudged := s.sampled.unjudged.erase line
          judged := s.sampled.judged ++ edgeOf line s.now (s.inputs.line line) } })
  ∧ (∀ (s c : State) (rising accepted : Bool),
    c = { s with sampled := { s.sampled with judged := s.sampled.judged.erase ⟨.start, rising, accepted⟩ } } →
    (accepted = true → takeInternal (.receive ⟨.start, rising, accepted⟩) s = .next (startEvent .external c))
    ∧ (accepted = false → takeInternal (.receive ⟨.start, rising, accepted⟩) s = .next { c with
        inputs := { s.inputs with
          rejectedStarts := if s.inputs.rejectedStarts = 0xFFFF then 0xFFFF else s.inputs.rejectedStarts + 1 } }))
  ∧ (∀ (s : State) (ch other : Channel) (rising accepted : Bool),
    leavesCycleOpen accepted ch other s →
    ∃ t, takeInternal (.receive ⟨.stop ch, rising, accepted⟩) s = .next t
      ∧ t.units.get ch = edgeAt accepted s.time.elapsed (s.units.get ch)
      ∧ (∀ j, j ≠ ch → t.units.get j = s.units.get j)
      ∧ t = { s with
          units := t.units
          sampled := { s.sampled with judged := s.sampled.judged.erase ⟨.stop ch, rising, accepted⟩ } })

/-- The state after a qualified START edge has been sampled: the level at the pin and as sampled, and the filter state
(R14, R18). -/
def startSampled (s : State) : State :=
  { s with
    pins := { s.pins with start := !s.inputs.start.level }
    inputs := { s.inputs with
      start := { s.inputs.start with level := !s.inputs.start.level, filter := some s.time.epoch } }
    sampled := s.sampled.withMoved .start }

/-- R38: in IDLE every start event is disregarded, whatever the start source: a qualified START edge only holds the START
line's filter, and a START request only gets its answer, STATE. -/
def Obligations.StartsInIdleAreDisregarded : Prop :=
  (∀ (s : State), s.movesWhole .start → s.engine.state = .idle → s.inputs.start.seesEdge = true →
    s.inputs.start.spaced s.now = true → exec .startTransition s = .next (startSampled s))
  ∧ ∀ (s : State) (r : Request) (rest : List Request), s.carriesOut r rest → r.code = 0x10 → s.engine.state = .idle →
    exec .start s = .next (s.answeredWith r rest .state 0 [])

/-- R30: a start event of a source the active profile does not accept is disregarded by the engine in every state. A START
edge under HOST or IMMEDIATE only holds the line's filter; a START request under EXTERNAL or IMMEDIATE is only answered,
with SOURCE outside IDLE. -/
def Obligations.StartsOfOtherSourcesAreDisregarded : Prop :=
  (∀ (s : State) (a : ActiveProfile), s.movesWhole .start → s.engine.active = some a →
    (a.profile.startSource = .host ∨ a.profile.startSource = .immediate) → s.inputs.start.seesEdge = true →
    s.inputs.start.spaced s.now = true → exec .startTransition s = .next (startSampled s))
  ∧ ∀ (s : State) (a : ActiveProfile) (r : Request) (rest : List Request), s.carriesOut r rest → r.code = 0x10 →
    s.engine.active = some a → (a.profile.startSource = .external ∨ a.profile.startSource = .immediate) →
    s.engine.state ≠ .idle → exec .start s = .next (s.answeredWith r rest .source 0 [])

/-- START_TRANSITION under EXTERNAL or EITHER and START under HOST or EITHER, taken in ARMED (R20, R29, R32, R33, R49, R61): a
cycle begins, with the early counts the units gathered; the START reply carries its number. -/
def Obligations.StartsBeginCycles : Prop :=
  (∀ (s : State) (a : ActiveProfile), s.movesWhole .start → s.engine.state = .armed → s.engine.active = some a →
    (a.profile.startSource = .external ∨ a.profile.startSource = .either) → s.inputs.start.seesEdge = true →
    s.inputs.start.spaced s.now = true →
    ∃ t, exec .startTransition s = .next t
      ∧ beginsCycle .external a (fun i => (s.units.get i).early) s t
      ∧ t = { startSampled s with
          time := t.time
          inputs := { (startSampled s).inputs with stops := t.inputs.stops }
          engine := { s.engine with
            state := t.engine.state, cycleCounter := t.engine.cycleCounter, cycle := t.engine.cycle,
            overlaps := 0 }
          units := t.units })
  ∧ (∀ (s : State) (r : Request) (rest : List Request) (a : ActiveProfile), s.carriesOut r rest → r.code = 0x10 →
    s.engine.state = .armed → s.engine.active = some a →
    (a.profile.startSource = .host ∨ a.profile.startSource = .either) →
    ∃ t, exec .start s = .next t ∧ beginsCycle .host a (fun i => (s.units.get i).early) s t
      ∧ t = { s with
          time := t.time
          inputs := { s.inputs with stops := t.inputs.stops }
          engine := { s.engine with
            state := t.engine.state, cycleCounter := t.engine.cycleCounter, cycle := t.engine.cycle,
            overlaps := 0 }
          units := t.units }.answeredWith r rest .ok 0 (littleEndian 4 (s.engine.cycleCounter + 1).toNat))

/-- R34 and R37: a start of an accepted source in MEASURING under IGNORE counts as an overlap of the open cycle, a START
request being answered with BUSY; in STALLED or HOLDOFF it counts as missed, a START request being answered with STATE;
nothing else of the engine changes. -/
def Obligations.StartsNotTakenAreCounted : Prop :=
  (∀ (s : State) (a : ActiveProfile), s.movesWhole .start → s.engine.active = some a →
    (a.profile.startSource = .external ∨ a.profile.startSource = .either) → s.inputs.start.seesEdge = true →
    s.inputs.start.spaced s.now = true →
    (s.engine.state = .measuring → a.profile.overlap = .ignore →
      exec .startTransition s = .next { startSampled s with engine := { s.engine with
        overlaps := if s.engine.overlaps = 0xFF then 0xFF else s.engine.overlaps + 1 } })
    ∧ (s.engine.state = .stalled ∨ s.engine.state = .holdoff →
      exec .startTransition s = .next { startSampled s with engine := { s.engine with
        missed := if s.engine.missed = 0xFFFF then 0xFFFF else s.engine.missed + 1 } }))
  ∧ (∀ (s : State) (r : Request) (rest : List Request) (a : ActiveProfile), s.carriesOut r rest → r.code = 0x10 →
    s.engine.active = some a → (a.profile.startSource = .host ∨ a.profile.startSource = .either) →
    (s.engine.state = .measuring → a.profile.overlap = .ignore →
      exec .start s = .next ({ s with engine := { s.engine with
        overlaps := if s.engine.overlaps = 0xFF then 0xFF else s.engine.overlaps + 1 } }.answeredWith r rest .busy 0 []))
    ∧ (s.engine.state = .stalled ∨ s.engine.state = .holdoff →
      exec .start s = .next ({ s with engine := { s.engine with
        missed := if s.engine.missed = 0xFFFF then 0xFFFF else s.engine.missed + 1 }
          }.answeredWith r rest .state 0 [])))

/-- A start of an accepted source in MEASURING under RESTART (R35, R36, R39, R42 to R45, R49, R70): the units not
concluded become ABORTED, the cycle closes ABORTED, RESTART, and its record asks admission with the start still in hand. A
START request does the same and is answered with OK and the new cycle's number when a cycle begins, STALLED when the
record is refused, and STATE when the run ends. A LOSS enters anywhere among the events of the close, a free value
(assumption 25). What the settings fields of a unit hold once its cycle is closed is the model's choice (assumption 11).
-/
def Obligations.RestartsAbortTheOpenCycle : Prop :=
  ∀ (s : State) (a : ActiveProfile) (oc : OpenCycle) (after : Channel → ChannelUnit),
    s.engine.state = .measuring → s.engine.cycle = some oc → s.engine.active = some a → a.profile.overlap = .restart →
    (∀ i, after i = forcedUnit .aborted (s.units.get i)) →
    (s.movesWhole .start → (a.profile.startSource = .external ∨ a.profile.startSource = .either) →
      s.inputs.start.seesEdge = true → s.inputs.start.spaced s.now = true →
      ∃ t, exec .startTransition s = .next t
        ∧ admissionAnswers
            { record := closedRecord (.aborted .restart) oc s.engine.overlaps s.engine.missed s.time.elapsed after
              cost := closedCost oc after
              created := s.now }
            (some .external) a.profile.full (closedState oc after (startSampled s)) t)
    ∧ (∀ r rest, s.carriesOut r rest → r.code = 0x10 →
      (a.profile.startSource = .host ∨ a.profile.startSource = .either) →
      ∃ t, admissionAnswers
            { record := closedRecord (.aborted .restart) oc s.engine.overlaps s.engine.missed s.time.elapsed after
              cost := closedCost oc after
              created := s.now }
            (some .host) a.profile.full (closedState oc after s) t
        ∧ (t.engine.state = .measuring →
          exec .start s = .next (t.answeredWith r rest .ok 0 (littleEndian 4 t.engine.cycleCounter.toNat)))
        ∧ (t.engine.state = .stalled → exec .start s = .next (t.answeredWith r rest .stalled 0 []))
        ∧ (t.engine.state = .idle → exec .start s = .next (t.answeredWith r rest .state 0 [])))

/-- The stop line of a channel after its qualified or rejected edge has been sampled and judged, the other lines as they
were (R14, R17, R18). -/
def stopSampled (ch : Channel) (accepted : Bool) (s t : State) : Prop :=
  t.inputs.stops.get ch = { s.inputs.stops.get ch with
      level := !(s.inputs.stops.get ch).level
      filter := if accepted = true then some s.time.epoch else (s.inputs.stops.get ch).filter }
    ∧ (∀ j, j ≠ ch → t.inputs.stops.get j = s.inputs.stops.get j)
    ∧ t.pins.stops.get ch = (!(s.inputs.stops.get ch).level)
    ∧ (∀ j, j ≠ ch → t.pins.stops.get j = s.pins.stops.get j)

/-- STOP_TRANSITION, an edge that closes no cycle (R24, R57, R60, R62, R64 to R68). A qualified edge is gathered by a PRIMED
unit as early, by a BLANKED one as blanked, by a DONE one with its cycle open as trailing, and is counted by a COUNTING one,
with its time; a rejected edge is counted by a unit BLANKED, COUNTING, or DONE with its cycle open; OFF and the units of a
closed cycle ignore both. -/
def Obligations.StopEdgesReachTheirUnits : Prop :=
  ∀ (s : State) (ch other : Channel) (accepted : Bool), s.movesWhole (.stop ch) →
    (s.inputs.stops.get ch).seesEdge = true → accepted = (s.inputs.stops.get ch).spaced s.now →
    leavesCycleOpen accepted ch other s →
    ∃ t, exec (.stopTransition ch) s = .next t ∧ stopSampled ch accepted s t
      ∧ t.units.get ch = edgeAt accepted s.time.elapsed (s.units.get ch)
      ∧ (∀ j, j ≠ ch → t.units.get j = s.units.get j)
      ∧ t = { s with
          pins := { s.pins with stops := t.pins.stops }
          inputs := { s.inputs with stops := t.inputs.stops }
          units := t.units
          sampled := s.sampled.withMoved (.stop ch) }

/-- STOP_TRANSITION, the last conclusion (R40, R42 to R45): when a unit reaches its quota and every other unit of the set
is DONE, the cycle closes COMPLETE with the edge's time as its close ticks, and the record asks admission (a LOSS it
causes enters anywhere among the events of the close, assumption 25). What the settings fields of a unit hold once its
cycle is closed is the model's choice (assumption 11). -/
def Obligations.LastConclusionClosesCycle : Prop :=
  ∀ (s : State) (ch : Channel) (a : ActiveProfile) (oc : OpenCycle) (u : ChannelUnit)
    (after : Channel → ChannelUnit), s.movesWhole (.stop ch) →
    (s.inputs.stops.get ch).seesEdge = true → (s.inputs.stops.get ch).spaced s.now = true → s.units.get ch = u →
    u.state = .counting → u.edgeCount + 1 = u.quota → s.engine.state = .measuring → s.engine.cycle = some oc →
    s.engine.active = some a → inSet oc.channelSet ch = true →
    (∀ j, j ≠ ch → inSet oc.channelSet j = true → (s.units.get j).state = .done) →
    (∀ i, after i = if i = ch then countedUnit s.time.elapsed u else s.units.get i) →
    ∃ t sampled, exec (.stopTransition ch) s = .next t ∧ stopSampled ch true s sampled
      ∧ sampled = { s with
          pins := { s.pins with stops := sampled.pins.stops }
          inputs := { s.inputs with stops := sampled.inputs.stops }
          sampled := s.sampled.withMoved (.stop ch) }
      ∧ admissionAnswers
          { record := closedRecord .complete oc s.engine.overlaps s.engine.missed s.time.elapsed after
            cost := closedCost oc after
            created := s.now }
          none a.profile.full (closedState oc after sampled) t

/-! ### The expiries -/

/-- WINDOW_EXPIRY (R41 to R45, R69): when the counting elapsed tick counter has reached the window limit, the units not
yet concluded become OVERRUN and the cycle closes, PARTIAL unless every unit of the set is DONE, and the record asks
admission (a LOSS it causes enters anywhere among the events of the close, assumption 25). Before the limit the command is
not taken (assumption 4). What the settings fields of a unit hold once its cycle is closed is the model's choice
(assumption 11). -/
def Obligations.WindowExpiryClosesCycle : Prop :=
  ∀ (s : State) (a : ActiveProfile) (oc : OpenCycle) (after : Channel → ChannelUnit) (outcome : CycleOutcome),
    s.live = true → s.engine.state = .measuring → s.engine.cycle = some oc → s.engine.active = some a →
    (s.time.counting = true → oc.windowLimit.toNat ≤ s.time.elapsed.toNat →
      (∀ i, after i = forcedUnit .overrun (s.units.get i)) →
      outcome = (if ∀ i ∈ channels, inSet oc.channelSet i = true → (after i).state = .done then .complete else .partly) →
      ∃ t, exec .windowExpiry s = .next t
        ∧ admissionAnswers
            { record := closedRecord outcome oc s.engine.overlaps s.engine.missed s.time.elapsed after
              cost := closedCost oc after
              created := s.now }
            none a.profile.full (closedState oc after s) t)
    ∧ (s.time.elapsed.toNat < oc.windowLimit.toNat → exec .windowExpiry s = .next s)

/-- The after-close sequence (R81, R84, R86, R87): cycles done increments; a set stop request flag ends the run, ABORTED
after a cycle the host aborted and DISARMED otherwise; a run that has reached its length ends COMPLETE; otherwise a
restarting start is taken, or the holdoff timer is loaded, or, with a holdoff of 0, an arming boundary is reached: a
pending selection supersedes the run, and ARMED is entered. The events it passes, in their order, are named apart, since a
LOSS of the same close can enter among them (R161). What the settings fields of PRIMED and OFF units hold is the model's
choice (assumption 11). -/
def Obligations.AfterCloseGoesOnOrEnds : Prop :=
  ∀ (s c : State) (a : ActiveProfile) (outcome : CycleOutcome) (restart : Option StartTaken),
    s.engine.active = some a →
    c = { s with engine := { s.engine with
      cyclesDone := if s.engine.cyclesDone = 0xFFFF then 0xFFFF else s.engine.cyclesDone + 1 } } →
    afterClose outcome restart s = { (afterCloseSequence outcome restart s).state with
      link := (afterCloseSequence outcome restart s).events.foldl (fun l e => postEvent s.now e l) s.link }
    ∧ (afterCloseSequence outcome restart s).state.link = s.link
    ∧ (s.engine.stopRequest = true →
      ∃ reason, reason = (if outcome = CycleOutcome.aborted .host then RunEndReason.aborted else .disarmed)
        ∧ (afterCloseSequence outcome restart s).events = [.runEnd s.engine.runNumber reason c.engine.cyclesDone]
        ∧ afterClose outcome restart s = { c with
          engine := c.engine.ended reason
          units := allOff
          link := postEvent s.now (.runEnd s.engine.runNumber reason c.engine.cyclesDone) s.link })
    ∧ (s.engine.stopRequest = false → a.profile.runLength ≠ 0 → c.engine.cyclesDone = a.profile.runLength →
      (afterCloseSequence outcome restart s).events = [.runEnd s.engine.runNumber .complete c.engine.cyclesDone]
        ∧ afterClose outcome restart s = { c with
          engine := c.engine.ended .complete
          units := allOff
          link := postEvent s.now (.runEnd s.engine.runNumber .complete c.engine.cyclesDone) s.link })
    ∧ (s.engine.stopRequest = false → (a.profile.runLength = 0 ∨ c.engine.cyclesDone ≠ a.profile.runLength) →
      (∀ src, restart = some src →
        (afterCloseSequence outcome restart s).events = []
          ∧ beginsCycle src a (fun _ => 0) c (afterClose outcome restart s)
          ∧ afterClose outcome restart s = { c with
              time := (afterClose outcome restart s).time
              inputs := { s.inputs with stops := (afterClose outcome restart s).inputs.stops }
              engine := { c.engine with
                state := .measuring
                overlaps := 0
                cycleCounter := s.engine.cycleCounter + 1
                cycle := (afterClose outcome restart s).engine.cycle }
              units := (afterClose outcome restart s).units })
      ∧ (restart = none → a.profile.holdoff ≠ 0 →
        (afterCloseSequence outcome restart s).events = []
          ∧ afterClose outcome restart s = { c with engine := { c.engine with
          state := .holdoff
          holdoffTimer := some (500 * a.profile.holdoff.toNat) } })
      ∧ (restart = none → a.profile.holdoff = 0 → s.store.selected = none →
        (afterCloseSequence outcome restart s).events = [] ∧ entersArmed a c (afterClose outcome restart s))
      ∧ (∀ k rev p, restart = none → a.profile.holdoff = 0 → s.store.selected = some k →
        s.store.slots.get k = .ready rev p →
        (afterCloseSequence outcome restart s).events
            = [.runEnd s.engine.runNumber .superseded c.engine.cyclesDone, .profileTaken k rev (nextRun s.engine)]
          ∧ supersedes k rev p c (afterClose outcome restart s)))

/-- BLANKING_END and FILTER_LAPSE (R8, R18, R62): when the elapsed tick counter has reached a BLANKED unit's delay the unit
enters COUNTING; when a held epoch's distance has reached the spacing it lapses; nothing else changes. -/
def Obligations.BlankingEndsAndFiltersLapse : Prop :=
  (∀ (s : State) (ch : Channel) (u : ChannelUnit), s.live = true → s.units.get ch = u → u.state = .blanked →
    u.blankingTimer = true → u.blanking.toNat ≤ s.time.elapsed.toNat →
    ∃ t, exec (.blankingEnd ch) s = .next t
      ∧ t.units.get ch = { u with state := .counting, blankingTimer := false }
      ∧ (∀ j, j ≠ ch → t.units.get j = s.units.get j) ∧ t = { s with units := t.units })
  ∧ (∀ (s : State) (e : Epoch), s.live = true → s.inputs.start.filter = some e →
    s.inputs.start.spacing.toNat ≤ (s.now - e).toNat →
    exec (.filterLapse .start) s = .next { s with
      inputs := { s.inputs with start := { s.inputs.start with filter := none } } })
  ∧ (∀ (s : State) (ch : Channel) (e : Epoch), s.live = true → (s.inputs.stops.get ch).filter = some e →
    (s.inputs.stops.get ch).spacing.toNat ≤ (s.now - e).toNat →
    ∃ t, exec (.filterLapse (.stop ch)) s = .next t
      ∧ t.inputs.stops.get ch = { s.inputs.stops.get ch with filter := none }
      ∧ (∀ j, j ≠ ch → t.inputs.stops.get j = s.inputs.stops.get j)
      ∧ t = { s with inputs := { s.inputs with stops := t.inputs.stops } })

/-- HOLDOFF_EXPIRY (R10, R15, R19, R80, R84, R88): when the timer has reached 0 an arming boundary is reached. With no
selection pending the engine enters ARMED; a pending selection supersedes the run: the slot becomes the active profile,
the lines are conditioned under it, the run ends SUPERSEDED and a new one begins, RUN_END before PROFILE_TAKEN, and ARMED
is entered. Before then the command is not taken (assumption 4). What the settings fields of PRIMED and OFF units hold is
the model's choice (assumption 11). -/
def Obligations.HoldoffExpiryArmsOrSupersedes : Prop :=
  ∀ (s : State) (a : ActiveProfile), s.live = true → s.engine.state = .holdoff → s.engine.active = some a →
    (s.engine.holdoffTimer = some 0 →
      ∃ t, exec .holdoffExpiry s = .next t
        ∧ (s.store.selected = none → entersArmed a s t)
        ∧ ∀ k rev p, s.store.selected = some k → s.store.slots.get k = .ready rev p → supersedes k rev p s t)
    ∧ ∀ n, s.engine.holdoffTimer = some (n + 1) → exec .holdoffExpiry s = .next s

/-! ### The serial line -/

/-- The Host Link once a frame has been taken from the line: the framer in HUNT with its gap timer stopped, the receiver
waiting for the next start bit (R132, R138). -/
def frameTaken (l : HostLink) (stats : LinkStats) : HostLink :=
  { l with framer := .hunt, gapTimer := none, receiver := l.receiver.completed, stats := stats }

/-- The state with another Host Link and RXD high, as it stands when a character completes (R132). -/
def received (s : State) (l : HostLink) : State := { s with link := l, pins := { s.pins with rxd := true } }

/-- CRC_ERROR, MISDIRECTED_FRAME and FRAMING_ERROR (R132, R137, R138): the frame is discarded and its statistics count; a bad
character inside a frame does the same, and in HUNT it is discarded uncounted; nothing else changes. -/
def Obligations.BadFramesAreCounted : Prop :=
  (∀ (s : State), s.canReceive = true →
    exec .crcError s = .next (received s (frameTaken s.link
      { s.link.stats with crcErrors := satInc s.link.stats.crcErrors }))
    ∧ exec .misdirectedFrame s = .next (received s (frameTaken s.link
      { s.link.stats with
        goodFrames := satInc s.link.stats.goodFrames, misdirected := satInc s.link.stats.misdirected }))
    ∧ ∀ cause, cause ≠ .badCharacter →
      exec (.framingError cause) s = .next (received s (frameTaken s.link
        { s.link.stats with framingErrors := satInc s.link.stats.framingErrors })))
  ∧ (∀ (s : State), s.canReceive = true →
    (∀ got crc, s.link.framer = .header got crc →
      exec (.framingError .badCharacter) s = .next (received s (frameTaken s.link
        { s.link.stats with framingErrors := satInc s.link.stats.framingErrors })))
    ∧ (∀ h payload low crc, s.link.framer = .body h payload low crc →
      exec (.framingError .badCharacter) s = .next (received s (frameTaken s.link
        { s.link.stats with framingErrors := satInc s.link.stats.framingErrors })))
    ∧ (s.link.framer = .hunt →
      exec (.framingError .badCharacter) s
        = .next (received s { s.link with receiver := s.link.receiver.completed })))

/-- GAP_TIMEOUT, BREAK and RECEIVE_LINE_HIGH_AGAIN (R132, R139, R140): inside a frame, with the gap timer at 0, the partial frame
is discarded and counted. A break discards a partial frame and the waiting requests and counts, leaving the reply queue,
the session, the report window and the cache; no character is then taken until the line is high. -/
def Obligations.GapsAndBreaksDiscardFrames : Prop :=
  (∀ (s : State), s.live = true → s.link.gapTimer = some 0 →
    ((∃ got crc, s.link.framer = .header got crc) ∨ ∃ h payload low crc, s.link.framer = .body h payload low crc) →
    exec .gapTimeout s = .next { s with link := { s.link with
      framer := .hunt
      gapTimer := none
      stats := { s.link.stats with gapTimeouts := satInc s.link.stats.gapTimeouts } } })
  ∧ (∀ (s : State), s.live = true →
    ((s.link.receiver = .waiting true ∨ (∃ age bits, s.link.receiver = .character age bits)
        ∨ ∃ age, s.link.receiver = .held age) →
      exec .lineBreak s = .next { s with
        pins := { s.pins with rxd := false }
        link := { s.link with
          framer := .hunt
          gapTimer := none
          intake := []
          copies := []
          receiver := .waiting false
          stats := { s.link.stats with breaks := satInc s.link.stats.breaks } } })
    ∧ (s.link.receiver = .waiting false →
      exec .receiveLineHighAgain s = .next { s with
        pins := { s.pins with rxd := true }
        link := { s.link with receiver := .waiting true } }
      ∧ (∀ b, exec (.byteReceived b) s = .next s) ∧ exec .lineBreak s = .next s))

/-- BYTE_RECEIVED in HUNT (R137, R139): every byte but the delimiter is discarded uncounted; the delimiter moves the framer
to HEADER with the check register at 0xFFFF and the gap timer loaded with 32 character times. -/
def Obligations.DelimiterOpensFrame : Prop :=
  ∀ (s : State) (b : Byte), s.canReceive = true → s.link.framer = .hunt →
    (b ≠ 0xC5 → exec (.byteReceived b) s = .next (received s { s.link with receiver := s.link.receiver.completed }))
    ∧ (b = 0xC5 → exec (.byteReceived b) s = .next (received s { s.link with
        receiver := s.link.receiver.completed
        framer := .header [] 0xFFFF
        gapTimer := some (32 * 10 * (if s.link.baud1 = true then (if s.link.baud0 = true then 27 else 54)
          else if s.link.baud0 = true then 108 else 434)) }))

/-- The bytes of whole frames, taken one by one from HUNT, do what the frame's own command does (R134 to R138, R171, R174):
a REQUEST frame is REQUEST_FRAME_ARRIVAL and a LINK-ACK frame is LINK_ACK. The check register over nine known characters
is 0x29B1. -/
def Obligations.GoodFramesArriveByteByByte : Prop :=
  crcOver 0xFFFF [0x31, 0x32, 0x33, 0x34, 0x35, 0x36, 0x37, 0x38, 0x39] = 0x29B1
  ∧ ∀ (s : State) (seq code : Byte) (payload : List Byte), s.canReceive = true → s.link.framer = .hunt →
    payload.length ≤ 1024 →
    runAll ((frameBytes .request seq code payload).map .byteReceived) s
        = exec (.requestFrameArrival seq code payload) s
      ∧ runAll ((frameBytes .linkAck seq 0 []).map .byteReceived) s = exec (.linkAck seq) s

/-- The bytes of frames not meant for the part or not well formed, taken one by one from HUNT (R134 to R138): a REPLY or
REPORT frame is MISDIRECTED_FRAME; a frame of any class whose two check bytes are not its check is CRC_ERROR; and a header
with a class byte that is no class, a length above 1,024, or, in a LINK-ACK, a length or a code other than 0, is
FRAMING_ERROR at the byte that shows it. -/
def Obligations.BadFramesArriveByteByByte : Prop :=
  ∀ (s : State) (cls : FrameClass) (seq code low high : Byte) (payload : List Byte), s.canReceive = true →
    s.link.framer = .hunt → payload.length ≤ 1024 →
    (cls = .reply ∨ cls = .report →
      runAll ((frameBytes cls seq code payload).map .byteReceived) s = exec .misdirectedFrame s)
    ∧ ((cls = .linkAck → code = 0 ∧ payload = []) →
      low.toNat + 256 * high.toNat ≠ (crcOver 0xFFFF (checkedBytes cls seq code payload)).toNat →
      runAll ((0xC5 :: checkedBytes cls seq code payload ++ [low, high]).map .byteReceived) s = exec .crcError s)
    ∧ (low.toNat = 0 ∨ 4 < low.toNat →
      runAll ([0xC5, low].map .byteReceived) s = exec (.framingError .badClass) s)
    ∧ (1024 < low.toNat + 256 * high.toNat →
      runAll ([0xC5, cls.code, seq, low, high].map .byteReceived) s = exec (.framingError .badLength) s)
    ∧ (low.toNat + 256 * high.toNat ≠ 0 →
      runAll ([0xC5, 0x04, seq, low, high].map .byteReceived) s = exec (.framingError .badLength) s)
    ∧ (code ≠ 0 →
      runAll ([0xC5, 0x04, seq, 0x00, 0x00, code].map .byteReceived) s = exec (.framingError .badLinkAck) s)

/-- A request of this sequence number and code is in flight: waiting, or a DEVICE RESET taken (R146). -/
def inFlightNow (l : HostLink) (seq code : Byte) : Prop :=
  (∃ w ∈ l.intake, w.seq = seq ∧ w.code = code) ∨ (l.resetTaken = some seq ∧ code = 0x06)

/-- The reply cached for a sequence number and code, if there is one (R148). -/
def repliesFor (l : HostLink) (seq code : Byte) : List Reply :=
  (l.cache.find? fun e => decide (e.seq = seq) && decide (e.code = code)).toList

/-- REQUEST_FRAME_ARRIVAL while the session is not SUSPENDED (R138, R146): the frame counts as good, and the request is
dropped as a duplicate in flight, dropped as an overflow of the four places, or appended, and kept with the cached reply of
its number and code if there is one (R174, assumption 28). A payload above 1,024 bytes, which no frame can carry (R134), is
refused by name (assumption 8). -/
def Obligations.RequestsMeetTheIntakeQueue : Prop :=
  (∀ (s : State) (seq code : Byte) (payload : List Byte) (stats : LinkStats), s.canReceive = true →
    payload.length ≤ 1024 → (∀ p, s.link.session ≠ .suspended p) →
    stats = { s.link.stats with goodFrames := satInc s.link.stats.goodFrames } →
    (inFlightNow s.link seq code →
      exec (.requestFrameArrival seq code payload) s = .next (received s (frameTaken s.link
        { stats with duplicatesInFlight := satInc stats.duplicatesInFlight })))
    ∧ (¬ inFlightNow s.link seq code → 4 ≤ s.link.intake.length →
      exec (.requestFrameArrival seq code payload) s = .next (received s (frameTaken s.link
        { stats with intakeOverflows := satInc stats.intakeOverflows })))
    ∧ (¬ inFlightNow s.link seq code → s.link.intake.length < 4 →
      exec (.requestFrameArrival seq code payload) s = .next (received s { frameTaken s.link stats with
        intake := s.link.intake ++ [⟨seq, code, payload⟩]
        copies := s.link.copies ++ repliesFor s.link seq code })))
  ∧ ∀ (s : State) (seq code : Byte) (payload : List Byte), 1024 < payload.length →
    exec (.requestFrameArrival seq code payload) s = .refused .payloadTooLong

/-- REQUEST_FRAME_ARRIVAL while the session is SUSPENDED (R146, R168): the session is OPEN again and every held report is due
at an attempt count of 1, but for one whose frame is on the line, which keeps its place; the intake queue then tests the
request, and the session resumes even when it drops it as a duplicate in flight or an overflow. That a report its timer had
made due before stays counted as such is the model's reading (assumption 9), and that the cached reply of an appended
request's number and code is kept with it is the model's (R174, assumption 28). -/
def Obligations.RequestResumesSession : Prop :=
  ∀ (s : State) (p : SessionParams) (seq code : Byte) (payload : List Byte) (stats : LinkStats) (resumed : HostLink),
    s.canReceive = true → payload.length ≤ 1024 → s.link.session = .suspended p →
    stats = { s.link.stats with goodFrames := satInc s.link.stats.goodFrames } →
    resumed = { frameTaken s.link stats with
      session := .opened p
      window := s.link.window.map fun h =>
        if s.link.transmitter.reportOnLine = some h.slot then { h with attempts := 1 }
        else { h with attempts := 1, due := if h.due = .no then .byResume else h.due } } →
    (inFlightNow s.link seq code →
      exec (.requestFrameArrival seq code payload) s = .next (received s
        { resumed with stats := { stats with duplicatesInFlight := satInc stats.duplicatesInFlight } }))
    ∧ (¬ inFlightNow s.link seq code → 4 ≤ s.link.intake.length →
      exec (.requestFrameArrival seq code payload) s = .next (received s
        { resumed with stats := { stats with intakeOverflows := satInc stats.intakeOverflows } }))
    ∧ (¬ inFlightNow s.link seq code → s.link.intake.length < 4 →
      exec (.requestFrameArrival seq code payload) s = .next (received s
        { resumed with
          intake := s.link.intake ++ [⟨seq, code, payload⟩]
          copies := s.link.copies ++ repliesFor s.link seq code }))

/-- LINK_ACK (R138, R165, R169): in every session state, a good LINK-ACK frees the held slot that carries its sequence
number, and is stray where none does; the session and everything else stay. That a report which its timer made due in this
base period, and which the arbiter has chosen since, is then not sent and its retransmission taken off the statistic is the
model's reading of R169 beside R142 (assumption 26). That every slot of the number is freed, where
R165 speaks of one and R163 says that the numbers held are distinct, is the model's choice (assumption 10). -/
def Obligations.LinkAckFreesItsSlot : Prop :=
  ∀ (s : State) (seq : Byte) (stats : LinkStats), s.canReceive = true →
    stats = { s.link.stats with goodFrames := satInc s.link.stats.goodFrames } →
    ((∃ h ∈ s.link.window, h.seq = seq) →
      (∀ frame slot before, s.link.transmitter = .chosen frame slot before →
        ¬ ∃ h ∈ s.link.window, h.slot = slot ∧ h.seq = seq) →
      exec (.linkAck seq) s = .next (received s { frameTaken s.link stats with
        window := s.link.window.filter fun h => h.seq != seq }))
    ∧ (∀ frame slot before h, s.link.transmitter = .chosen frame slot before → h ∈ s.link.window → h.slot = slot →
      h.seq = seq →
      exec (.linkAck seq) s = .next (received s
        { frameTaken s.link { stats with retransmissions := before } with
          transmitter := .idle
          window := s.link.window.filter fun h => h.seq != seq }))
    ∧ ((∀ h ∈ s.link.window, h.seq ≠ seq) →
      exec (.linkAck seq) s = .next (received s (frameTaken s.link
        { stats with strayAcks := satInc stats.strayAcks })))

/-- FRAME_SENT (R11, R133, R142, R158, R163): when the last base period of a frame has come the transmitter ends it; a
report still held while the session is OPEN has its timer loaded, an ordinary reply changes nothing more, and the reply
of a DEVICE RESET makes the reset due. -/
def Obligations.FrameEndTellsItsSource : Prop :=
  ∀ (s : State) (frame : List Byte), s.live = true →
    (s.link.transmitter = .sending frame 0 (.reply false) →
      exec .frameSent s = .next { s with link := { s.link with transmitter := .ended } })
    ∧ (s.link.transmitter = .sending frame 0 (.reply true) →
      exec .frameSent s = .next { s with link := { s.link with transmitter := .ended, resetDue := true } })
    ∧ (∀ slot p, s.link.transmitter = .sending frame 0 (.report slot) → s.link.session = .opened p →
      exec .frameSent s = .next { s with link := { s.link with
        transmitter := .ended
        window := s.link.window.map fun h =>
          if h.slot = slot then { h with timer := some (500000 * p.timeout.toNat) } else h } })
    ∧ (∀ slot p, s.link.transmitter = .sending frame 0 (.report slot) →
      (s.link.session = .suspended p ∨ s.link.session = .closed) →
      exec .frameSent s = .next { s with link := { s.link with transmitter := .ended } })

/-- REPORT_TIMEOUT (R166, R167), the held slots being different slots: below an attempt count of 4 the report becomes due
with one attempt more; at 4 the session is SUSPENDED, every report timer stops and every slot stays held. -/
def Obligations.ReportTimerResendsOrSuspends : Prop :=
  ∀ (s : State) (p : SessionParams) (h : HeldReport), s.live = true → s.link.session = .opened p →
    (s.link.window.map HeldReport.slot).Nodup → h ∈ s.link.window → h.timer = some 0 →
    (h.attempts < 4 →
      exec (.reportTimeout h.slot) s = .next { s with link := { s.link with
        window := s.link.window.map fun w =>
          if w.slot = h.slot then { w with attempts := w.attempts + 1, timer := none, due := .justTimed } else w } })
    ∧ (4 ≤ h.attempts →
      exec (.reportTimeout h.slot) s = .next { s with link := { s.link with
        session := .suspended p
        window := s.link.window.map fun w => { w with timer := none }
        stats := { s.link.stats with suspensions := satInc s.link.stats.suspensions } } })

/-- The transmitter with a frame begun: ten bit times for each of its bytes lie ahead (R133, R142). -/
def begun (l : HostLink) (frame : List Byte) (source : FrameSource) : Transmitter :=
  .sending frame (10 * l.divisor * frame.length - 1) source

/-- The transmit arbiter's first two choices (R142, R143, R166, R168), when it alone has something to do: the oldest reply;
else, in an OPEN session with no DEVICE RESET taken, the due report first sent earliest, its retransmission counted
when its timer made it due and not when a resumption did. That one which its timer made due in this very base period is
only marked chosen, its frame beginning unless a LINK-ACK of the base period removes it, is the model's reading of R169
beside R142, by which it begins at once (assumption 26). -/
def Obligations.RepliesGoBeforeReports : Prop :=
  ∀ (s : State), s.pending = [] → internals s = [.choose] →
    (∀ q rest, s.link.replies = q :: rest →
      step s = .next { s with
        choices := s.choices + 1
        link := { s.link with
          replies := rest
          transmitter := begun s.link (replyFrame q.reply) (.reply q.resets) } })
    ∧ (∀ p h before later, s.link.replies = [] → s.link.session = .opened p → s.link.resetTaken = none →
      s.link.window = before ++ h :: later → (∀ w ∈ before, w.due = .no) → h.due ≠ .no →
      step s = .next { s with
        choices := s.choices + 1
        link := { s.link with
          window := s.link.window.map fun w => if w.slot = h.slot then { w with due := .no } else w
          stats := { s.link.stats with
            retransmissions :=
              if h.due = .byResume then s.link.stats.retransmissions else satInc s.link.stats.retransmissions }
          transmitter :=
            if h.due = .justTimed then .chosen h.frame h.slot s.link.stats.retransmissions
            else begun s.link h.frame (.report h.slot) } })

/-- The Host Link with a new report taken into a free slot and begun (R142, R163). -/
def reportBegun (l : HostLink) (slot : Fin 4) (code : Byte) (payload : List Byte) : HostLink :=
  { l with
    window := l.window ++ [⟨slot, frameBytes .report l.reportSeq code payload, l.reportSeq, 1, none, .no⟩]
    reportSeq := l.reportSeq + 1
    transmitter := begun l (frameBytes .report l.reportSeq code payload) (.report slot) }

/-- The transmit arbiter's choice of a new report (R123, R142, R163, R164), with no reply waiting, no report due and a slot
free: in PULL, or with no undelivered record, the oldest event report; in PUSH the record when no event report waits or
when its creation stamp is not later, the stamps being compared modulo 2^48. Which free slot is taken is the model's
choice (assumption 10). No report is chosen while the session is CLOSED or SUSPENDED, once a DEVICE RESET has been taken
(R143), or, none being due, with four slots held or with no candidate. -/
def Obligations.NewReportsGoByStamp : Prop :=
  (∀ (s : State) (p : SessionParams), s.pending = [] → internals s = [.choose] → s.link.replies = [] →
    s.link.session = .opened p → s.link.resetTaken = none → (∀ w ∈ s.link.window, w.due = .no) →
    s.link.window.length < 4 → (s.link.window.map HeldReport.slot).Nodup →
    (∀ e rest, s.link.events = e :: rest → (p.mode = .pull ∨ ∀ q ∈ s.queue.entries, q.delivered = true) →
      ∃ slot, (∀ w ∈ s.link.window, w.slot ≠ slot)
        ∧ step s = .next { s with
            choices := s.choices + 1
            link := reportBegun { s.link with events := rest } slot e.event.code e.payload })
    ∧ (∀ before q after, p.mode = .push → s.queue.entries = before ++ q :: after → (∀ w ∈ before, w.delivered = true) →
      q.delivered = false →
      (∀ e ∈ s.link.events.head?,
        (q.created - e.created).toNat = 0 ∨ 2 ^ 47 ≤ (q.created - e.created).toNat) →
      ∃ slot, (∀ w ∈ s.link.window, w.slot ≠ slot)
        ∧ step s = .next { s with
            choices := s.choices + 1
            queue := { s.queue with entries := before ++ { q with delivered := true } :: after }
            link := reportBegun s.link slot 0x40 (recordBytes q.record) })
    ∧ (∀ before q after e rest, p.mode = .push → s.queue.entries = before ++ q :: after →
      (∀ w ∈ before, w.delivered = true) → q.delivered = false → s.link.events = e :: rest →
      1 ≤ (q.created - e.created).toNat → (q.created - e.created).toNat < 2 ^ 47 →
      ∃ slot, (∀ w ∈ s.link.window, w.slot ≠ slot)
        ∧ step s = .next { s with
            choices := s.choices + 1
            link := reportBegun { s.link with events := rest } slot e.event.code e.payload }))
  ∧ ∀ (s : State), s.link.replies = [] →
    (s.link.session = .closed ∨ (∃ p, s.link.session = .suspended p) ∨ s.link.resetTaken ≠ none →
      arbiterChoice s = none)
    ∧ ((∀ w ∈ s.link.window, w.due = .no) → 4 ≤ s.link.window.length → arbiterChoice s = none)
    ∧ ((∀ w ∈ s.link.window, w.due = .no) → s.link.events = [] →
      ((∀ p, s.link.session = .opened p → p.mode = .pull) ∨ ∀ q ∈ s.queue.entries, q.delivered = true) →
      arbiterChoice s = none)

/-- An event at the Host Link (R161, R162): let go while the session is CLOSED or its kind is not in the notify set; else a
report of it is appended with the dropped count, which returns to 0; from a full queue of 16 the oldest report is given
up and counted. -/
def Obligations.EventsBecomeReports : Prop :=
  ∀ (l : HostLink) (stamp : Epoch) (e : Event) (p : SessionParams),
    (l.session = .closed → postEvent stamp e l = l)
    ∧ ((l.session = .opened p ∨ l.session = .suspended p) →
      (p.notify.getLsbD e.kindBit = false → postEvent stamp e l = l)
      ∧ (p.notify.getLsbD e.kindBit = true → l.events.length < 16 →
        postEvent stamp e l = { l with events := l.events ++ [⟨stamp, l.dropped, e⟩], dropped := 0 })
      ∧ (∀ oldest rest, p.notify.getLsbD e.kindBit = true → l.events = oldest :: rest → 16 ≤ l.events.length →
        ∃ n, n.toNat = min 255 (l.dropped.toNat + 1 + oldest.droppedBefore.toNat)
          ∧ postEvent stamp e l = { l with
              events := rest ++ [⟨stamp, n, e⟩]
              dropped := 0
              stats := { l.stats with eventsDropped := satInc l.stats.eventsDropped } }))

/-! ### Requests: the checks before them and the Host Link's own -/

/-- IDENTIFY (R154) and STATUS (R155, R171, Table 11-5): every field of the reply in its place, absent fields sent as 0; nothing
else changes. From a run's end until the next run begins, the reply tells the reason by its code (R87, R171, Table 11-8): that the
code follows the last field of Table 11-5, which has no field for it, is the model's choice (assumption 27). -/
def Obligations.IdentifyAndStatusReplies : Prop :=
  (∀ (s : State) (r : Request) (rest : List Request), s.carriesOut r rest → r.code = 0x01 →
    exec .identify s = .next (s.answeredWith r rest .ok 0
      [0x4A, 0x0E, 0x04, 0x12, 0x01, 0x0C, 0x18, 0xA0, 0x00, 0xC0, 0x00, 0x04, 0x04, 0x04, 0x10, 0x04,
        (if s.link.cause = .pin then 0x00 else 0x01),
        (if s.link.baud1 = true then (if s.link.baud0 = true then 0x03 else 0x02)
          else if s.link.baud0 = true then 0x01 else 0x00)]))
  ∧ (∀ (s : State) (r : Request) (rest : List Request), s.carriesOut r rest → r.code = 0x02 →
    ∃ body, exec .status s = .next (s.answeredWith r rest .ok 0 body)
      ∧ body.length = 24 + (if s.engine.endReason = none then 0 else 1)
      ∧ body.getD 0 0xFF = (match s.engine.state with
          | .idle => 0 | .armed => 1 | .measuring => 2 | .stalled => 3 | .holdoff => 4)
      ∧ ofLittleEndian ((body.drop 1).take 2) = s.engine.runNumber.toNat
      ∧ ofLittleEndian ((body.drop 3).take 2) = s.engine.cyclesDone.toNat
      ∧ body.getD 5 0xFF = (if s.engine.stopRequest = true then 1 else 0)
      ∧ (∀ a, s.engine.active = some a → ofLittleEndian ((body.drop 7).take 2) = a.profile.runLength.toNat
          ∧ ofLittleEndian ((body.drop 9).take 1) = a.slot.val
          ∧ ofLittleEndian ((body.drop 10).take 2) = a.revision.toNat)
      ∧ (∀ k, s.store.selected = some k → ofLittleEndian ((body.drop 12).take 1) = k.val)
      ∧ (body.getD 6 0xFF).toNat = (if s.engine.active = none then 0 else 1) + (if s.store.selected = none then 0 else 2)
      ∧ (s.engine.active = none → (body.drop 7).take 5 = [0, 0, 0, 0, 0])
      ∧ (s.store.selected = none → body.getD 12 0xFF = 0)
      ∧ ofLittleEndian ((body.drop 13).take 4) = s.engine.cycleCounter.toNat
      ∧ ofLittleEndian ((body.drop 17).take 2) = s.engine.missed.toNat
      ∧ ofLittleEndian ((body.drop 19).take 2) = s.inputs.rejectedStarts.toNat
      ∧ body.getD 21 0xFF = (match s.link.session with | .closed => 0 | .opened _ => 1 | .suspended _ => 2)
      ∧ body.getD 22 0xFF = (BitVec.ofNat 8 s.queue.entries.length)
      ∧ body.getD 23 0xFF = (if s.engine.closeBuffer = none then 0 else 1)
      ∧ body.drop 24 = (match s.engine.endReason with
          | none => [] | some .complete => [0] | some .disarmed => [1] | some .aborted => [2] | some .superseded => [3]))

/-- SESSION_OPEN (R151, R152): with a delivery mode, notify set and report timeout in range, 25 when omitted, the session is
OPEN with them, the window and the event report queue are emptied and the counts return to 0, the reply carrying the
session state before; else the first field out of range is named and nothing changes. SESSION_CLOSE (R153): the session is
CLOSED, the window and the event report queue are emptied and the counts return to 0; records and measurement stay. -/
def Obligations.SessionsOpenAndClose : Prop :=
  (∀ (s : State) (r : Request) (rest : List Request) (mode notify timeout : Byte), s.carriesOut r rest →
    r.code = 0x03 → (r.payload = [mode, notify, timeout] ∨ (r.payload = [mode, notify] ∧ timeout = 25)) →
    (mode.toNat ≤ 1 → notify.toNat ≤ 15 → timeout ≠ 0 →
      exec .sessionOpen s = .next ({ s with link := { s.link with
        session := .opened ⟨if mode = 0 then .pull else .push, notify.setWidth 4, timeout⟩
        window := []
        events := []
        dropped := 0
        reportSeq := 0 } }.answeredWith r rest .ok 0
          [match s.link.session with | .closed => 0 | .opened _ => 1 | .suspended _ => 2]))
    ∧ (1 < mode.toNat → exec .sessionOpen s = .next (s.answeredWith r rest .range 0xF4 []))
    ∧ (mode.toNat ≤ 1 → 15 < notify.toNat → exec .sessionOpen s = .next (s.answeredWith r rest .range 0xF5 []))
    ∧ (mode.toNat ≤ 1 → notify.toNat ≤ 15 → timeout = 0 →
      exec .sessionOpen s = .next (s.answeredWith r rest .range 0xF6 [])))
  ∧ (∀ (s : State) (r : Request) (rest : List Request), s.carriesOut r rest → r.code = 0x04 →
    exec .sessionClose s = .next ({ s with link := { s.link with
      session := .closed
      window := []
      events := []
      dropped := 0
      reportSeq := 0 } }.answeredWith r rest .ok 0 []))

/-- The twenty rows that take a request. -/
def requestRows : List Instr :=
  [.identify, .status, .sessionOpen, .sessionClose, .linkStats, .deviceReset, .profileClear, .profileSetGlobal,
    .profileSetChannel, .profileRead, .profileCheck, .profileSelect, .arm, .disarm, .abort, .start, .resultRead,
    .resultAck, .queueStatus, .unknownRequest]

/-- LINK_STATS (R144, R145): the thirteen statistics of Table 8-2 in order, four bytes each; a clear flag of 1 sets them
to 0 after the reply is built, 0 leaves them, and any other flag is refused with nothing cleared. That the part, taking it
of its own accord, builds the reply in one step and clears in a later one of the same base period, with no request taken
between, is the model's choice (assumption 20). That a report chosen in this base period, which a LINK-ACK may still remove,
falls back to the cleared count is the model's reading of R169 (assumption 26). -/
def Obligations.LinkStatsReadAndClear : Prop :=
  (∀ (s : State) (r : Request) (rest : List Request) (flag : Byte) (body : List Byte), s.carriesOut r rest →
    r.code = 0x05 → r.payload = [flag] →
    body = ([s.link.stats.goodFrames, s.link.stats.crcErrors, s.link.stats.framingErrors, s.link.stats.gapTimeouts,
      s.link.stats.breaks, s.link.stats.intakeOverflows, s.link.stats.duplicatesCached,
      s.link.stats.duplicatesInFlight, s.link.stats.misdirected, s.link.stats.strayAcks,
      s.link.stats.retransmissions, s.link.stats.suspensions, s.link.stats.eventsDropped].map fun n =>
        littleEndian 4 n.toNat).flatten →
    (flag = 0 → exec .linkStats s = .next (s.answeredWith r rest .ok 0 body)
      ∧ takeInternal .readStats s = .next (s.answeredWith r rest .ok 0 body))
    ∧ (flag = 1 → exec .linkStats s = .next ({ s with link := { s.link with
        stats := ⟨0, 0, 0, 0, 0, 0, 0, 0, 0, 0, 0, 0, 0⟩
        transmitter := s.link.transmitter.clearBefore } }.answeredWith r rest .ok 0 body))
    ∧ (flag = 1 → takeInternal .readStats s
        = .next ({ s with link := { s.link with clearDue := true } }.answeredWith r rest .ok 0 body))
    ∧ (flag ≠ 0 → flag ≠ 1 → exec .linkStats s = .next (s.answeredWith r rest .range 0xF3 [])
      ∧ takeInternal .readStats s = .next (s.answeredWith r rest .range 0xF3 [])))
  ∧ ∀ (s : State), s.live = true → s.link.clearDue = true →
    .clearStats ∈ internals s ∧ (∀ c ∈ requestRows, exec c s = .next s)
    ∧ takeInternal .clearStats s = .next { s with link := { s.link with
        stats := ⟨0, 0, 0, 0, 0, 0, 0, 0, 0, 0, 0, 0, 0⟩
        clearDue := false
        transmitter := s.link.transmitter.clearBefore } }

/-- DEVICE_RESET (R143, R147, R157): answered OK by a reply that will reset the part when its last byte has left; from
then on no further request is taken. -/
def Obligations.DeviceResetStopsTheIntake : Prop :=
  ∀ (s : State) (r : Request) (rest : List Request), s.carriesOut r rest → r.code = 0x06 →
    ∃ t, exec .deviceReset s = .next t
      ∧ t.link.resetTaken = some r.seq ∧ t.link.intake = rest
      ∧ t.link.replies = s.link.replies ++ [⟨⟨r.seq, r.code, .ok, 0, []⟩, true⟩]
      ∧ t.link.cache = (s.answeredWith r rest .ok 0 []).link.cache
      ∧ t = { s with link := { s.link with
          intake := t.link.intake, replies := t.link.replies, cache := t.link.cache, resetTaken := t.link.resetTaken } }
      ∧ ∀ c ∈ requestRows, exec c t = .next t

/-- UNKNOWN_REQUEST and the common checks (R150, R173, Table 11-3): a code that names no request is refused with UNKNOWN; a
payload of a length its request does not allow with FORMAT; and while the session is CLOSED every request but IDENTIFY,
STATUS, SESSION OPEN, LINK STATS and DEVICE RESET with NO_SESSION. In the two SET requests a length that leaves a part of a
tagged field, or a tag of 0 or from 0xF0 up where a tagged field begins, is refused with FORMAT. The refusal completes the
request and changes nothing else. -/
def Obligations.CommonChecksRefuse : Prop :=
  (∀ (s : State) (r : Request) (rest : List Request), s.takes r rest →
    s.link.noReplyFor r →
    (r.code = 0 ∨ 0x13 < r.code.toNat →
      exec .unknownRequest s = .next (s.answeredWith r rest .unknown 0 []))
    ∧ (r.code ∈ ([0x01, 0x02, 0x04, 0x06, 0x0D, 0x0E, 0x0F, 0x10, 0x13] : List Byte) → r.payload ≠ [] →
      exec (requestCommand r.code) s = .next (s.answeredWith r rest .format 0 []))
    ∧ (r.code ∈ ([0x05, 0x07, 0x0A, 0x0B, 0x0C] : List Byte) → r.payload.length ≠ 1 →
      exec (requestCommand r.code) s = .next (s.answeredWith r rest .format 0 []))
    ∧ (r.code = 0x03 → r.payload.length ≠ 2 → r.payload.length ≠ 3 →
      exec .sessionOpen s = .next (s.answeredWith r rest .format 0 []))
    ∧ (r.code = 0x11 → 1 < r.payload.length → exec .resultRead s = .next (s.answeredWith r rest .format 0 []))
    ∧ (r.code = 0x12 → r.payload.length ≠ 4 → exec .resultAck s = .next (s.answeredWith r rest .format 0 []))
    ∧ (s.link.session = .closed → 0x04 ≤ r.code.toNat → r.code.toNat ≤ 0x13 → r.code ≠ 0x05 → r.code ≠ 0x06 →
      formatAllowed r.code r.payload = true →
      exec (requestCommand r.code) s = .next (s.answeredWith r rest .noSession 0 [])))
  ∧ (∀ (s : State) (r : Request) (rest : List Request), s.takes r rest →
    s.link.noReplyFor r →
    (r.code = 0x08 → (r.payload = [] ∨ (r.payload.length - 1) % 5 ≠ 0 ∨
        ∃ n tag, r.payload[1 + 5 * n]? = some tag ∧ (tag = 0 ∨ 0xF0 ≤ tag.toNat)) →
      exec .profileSetGlobal s = .next (s.answeredWith r rest .format 0 []))
    ∧ (r.code = 0x09 → (r.payload.length < 2 ∨ (r.payload.length - 2) % 5 ≠ 0 ∨
        ∃ n tag, r.payload[2 + 5 * n]? = some tag ∧ (tag = 0 ∨ 0xF0 ≤ tag.toNat)) →
      exec .profileSetChannel s = .next (s.answeredWith r rest .format 0 [])))

/-- The state with a request taken and answered with a reply of the cache, as an ordinary reply, the duplicate counted
(R143, R147). -/
def answeredAgain (s : State) (rest : List Request) (e : Reply) : State :=
  { s with link := { s.link with
    intake := rest
    replies := s.link.replies ++ [⟨e, false⟩]
    stats := { s.link.stats with duplicatesCached := satInc s.link.stats.duplicatesCached } } }

/-- A request taken that finds its reply in the cache (R143, R147, R148, R174): the cached reply joins the reply queue as an
ordinary reply, the duplicate is counted, the cache stays, and nothing is carried out, whatever the request, by its command
or as the part takes it. One whose frame found its reply in the cache when it was handed on is answered with that reply in the
same way where the entry has been displaced since: that R174's hand-on decides there, and not the taking of R148, is the
model's reading (assumption 28). -/
def Obligations.RepeatsAreAnsweredFromCache : Prop :=
  ∀ (s forgotten : State) (r : Request) (rest : List Request) (before after : List Reply) (e : Reply), s.takes r rest →
    forgotten = { s with link := { s.link with
      copies := s.link.copies.filter fun w => !(decide (w.seq = r.seq) && decide (w.code = r.code)) } } →
    (∀ w ∈ before, ¬ (w.seq = r.seq ∧ w.code = r.code)) → e.seq = r.seq → e.code = r.code →
    (s.link.cache = before ++ e :: after →
      exec (requestCommand r.code) s = .next (answeredAgain forgotten rest e)
      ∧ (r.code = 0x05 → takeInternal .readStats s = .next (answeredAgain forgotten rest e)))
    ∧ ((∀ w ∈ s.link.cache, ¬ (w.seq = r.seq ∧ w.code = r.code)) → s.link.copies = before ++ e :: after →
      exec (requestCommand r.code) s = .next (answeredAgain forgotten rest e)
      ∧ (r.code = 0x05 → takeInternal .readStats s = .next (answeredAgain forgotten rest e)))

/-! ### Requests: profiles -/

/-- PROFILE_CLEAR (R98, R101): the slot becomes EMPTY whatever it was, and the active profile keeps its copy; the pending
slot is refused with IN_USE, and a slot number above 3 with RANGE, changing nothing. -/
def Obligations.ProfileClearEmptiesSlot : Prop :=
  ∀ (s : State) (r : Request) (rest : List Request) (b : Byte), s.carriesOut r rest → r.code = 0x07 →
    r.payload = [b] →
    (∀ k : Fin 4, b.toNat = k.val →
      (s.store.selected ≠ some k →
        ∃ t, exec .profileClear s = .next t ∧ t.store.slots.get k = .empty
          ∧ (∀ j, j ≠ k → t.store.slots.get j = s.store.slots.get j)
          ∧ t = { s with store := { s.store with slots := t.store.slots } }.answeredWith r rest .ok 0 [])
      ∧ (s.store.selected = some k → exec .profileClear s = .next (s.answeredWith r rest .inUse 0 [])))
    ∧ (3 < b.toNat → exec .profileClear s = .next (s.answeredWith r rest .range 0xF0 []))

/-- The contents a write starts from and the revision it keeps: the slot's own, or the defaults and 0 (R96, R97, R99). -/
def startsFrom (slot : Slot) (rev : BitVec 16) (p : Profile) : Prop :=
  (slot = .empty ∧ rev = 0 ∧ p = Profile.default) ∨ slot = .draft rev p ∨ slot = .ready rev p

/-- The value of a global field a tag and a number write, where they write one (Tables 6-1, 11-4 and 11-8). -/
def writesGlobal (tag n : Nat) (p q : Profile) : Prop :=
  (tag = 0x01 ∧ q = { p with channelSet := BitVec.ofNat 12 n })
    ∨ (tag = 0x02 ∧ 1 ≤ n ∧ n ≤ 4096 ∧ q = { p with tickDivisor := BitVec.ofNat 16 n })
    ∨ (tag = 0x03 ∧ 1 ≤ n ∧ q = { p with windowLimit := BitVec.ofNat 32 n })
    ∨ (tag = 0x04 ∧ n = 0 ∧ q = { p with startSource := .external })
    ∨ (tag = 0x04 ∧ n = 1 ∧ q = { p with startSource := .host })
    ∨ (tag = 0x04 ∧ n = 2 ∧ q = { p with startSource := .either })
    ∨ (tag = 0x04 ∧ n = 3 ∧ q = { p with startSource := .immediate })
    ∨ (tag = 0x05 ∧ n = 0 ∧ q = { p with startEdge := .rising })
    ∨ (tag = 0x05 ∧ n = 1 ∧ q = { p with startEdge := .falling })
    ∨ (tag = 0x05 ∧ n = 2 ∧ q = { p with startEdge := .both })
    ∨ (tag = 0x06 ∧ n ≤ 65535 ∧ q = { p with startSpacing := BitVec.ofNat 16 n })
    ∨ (tag = 0x07 ∧ n = 0 ∧ q = { p with overlap := .ignore })
    ∨ (tag = 0x07 ∧ n = 1 ∧ q = { p with overlap := .restart })
    ∨ (tag = 0x08 ∧ n ≤ 65535 ∧ q = { p with runLength := BitVec.ofNat 16 n })
    ∨ (tag = 0x09 ∧ n ≤ 65535 ∧ q = { p with holdoff := BitVec.ofNat 16 n })
    ∨ (tag = 0x0A ∧ n = 0 ∧ q = { p with full := .hold })
    ∨ (tag = 0x0A ∧ n = 1 ∧ q = { p with full := .discard })

/-- The bytes of one tagged field (R173). -/
def fieldBytes (f : Byte × BitVec 32) : List Byte := f.1 :: littleEndian 4 f.2.toNat

/-- Tagged fields, none supplied twice, that each write: what they leave when written in their order (R98, R100). -/
def writesAll {α : Type} (write : Nat → Nat → α → α → Prop) : List Byte → List (Byte × BitVec 32) → α → α → Prop
  | _, [], p, q => q = p
  | seen, f :: fs, p, q => f.1 ∉ seen ∧ ∃ m, write f.1.toNat f.2.toNat p m ∧ writesAll write (f.1 :: seen) fs m q

/-- The tag of the first field that is refused: supplied a second time, or writing nothing (R98, R100). -/
def refusesAt {α : Type} (write : Nat → Nat → α → α → Prop) : List Byte → List (Byte × BitVec 32) → α → Byte → Prop
  | _, [], _, _ => False
  | seen, f :: fs, p, tag =>
    (tag = f.1 ∧ (f.1 ∈ seen ∨ ∀ m, ¬ write f.1.toNat f.2.toNat p m))
      ∨ (f.1 ∉ seen ∧ ∃ m, write f.1.toNat f.2.toNat p m ∧ refusesAt write (f.1 :: seen) fs m tag)

/-- PROFILE_SET_GLOBAL with any list of tagged fields (R97 to R100, R172, R173), after the tests of slot number and IN_USE: when
every field names a global field, is in its range and comes once, all are written, from the slot's contents or every
default, and the slot is DRAFT with its revision kept; else the whole request is refused with RANGE naming the first that
fails, and the slot stays as it was. No field at all is a successful write. -/
def Obligations.SetGlobalWritesItsFields : Prop :=
  ∀ (s : State) (r : Request) (rest : List Request) (b : Byte) (fields : List (Byte × BitVec 32)), s.carriesOut r rest →
    r.code = 0x08 → r.payload = b :: (fields.map fieldBytes).flatten →
    (3 < b.toNat → exec .profileSetGlobal s = .next (s.answeredWith r rest .range 0xF0 []))
    ∧ ∀ k : Fin 4, b.toNat = k.val →
      (s.store.selected = some k → exec .profileSetGlobal s = .next (s.answeredWith r rest .inUse 0 []))
      ∧ ∀ (rev : BitVec 16) (p : Profile), s.store.selected ≠ some k → startsFrom (s.store.slots.get k) rev p →
        (∀ q, writesAll writesGlobal [] fields p q →
          ∃ t, exec .profileSetGlobal s = .next t ∧ t.store.slots.get k = .draft rev q
            ∧ (∀ j, j ≠ k → t.store.slots.get j = s.store.slots.get j)
            ∧ t = { s with store := { s.store with slots := t.store.slots } }.answeredWith r rest .ok 0
                (littleEndian 2 rev.toNat))
        ∧ (∀ tag, refusesAt writesGlobal [] fields p tag →
          exec .profileSetGlobal s = .next (s.answeredWith r rest .range tag []))

/-- The value of a channel field a tag and a number write, where they write one (Tables 6-2, 11-4 and 11-8). -/
def writesChannel (tag n : Nat) (c d : ChannelFields) : Prop :=
  (tag = 0x11 ∧ n = 0 ∧ d = { c with stopEdge := .rising })
    ∨ (tag = 0x11 ∧ n = 1 ∧ d = { c with stopEdge := .falling })
    ∨ (tag = 0x11 ∧ n = 2 ∧ d = { c with stopEdge := .both })
    ∨ (tag = 0x12 ∧ n ≤ 65535 ∧ d = { c with spacing := BitVec.ofNat 16 n })
    ∨ (tag = 0x13 ∧ 1 ≤ n ∧ n ≤ 255 ∧ d = { c with quota := BitVec.ofNat 8 n })
    ∨ (tag = 0x14 ∧ n ≤ 65535 ∧ d = { c with blanking := BitVec.ofNat 16 n })
    ∨ (tag = 0x15 ∧ n = 0 ∧ d = { c with trace := false })
    ∨ (tag = 0x15 ∧ n = 1 ∧ d = { c with trace := true })

/-- PROFILE_SET_CHANNEL with any list of tagged fields (R98, R99, R100), after the tests of slot number, channel number and
IN_USE in that order: when every field names a channel field, is in its range and comes once, all are written to the one
channel and the slot is DRAFT with its revision kept; else the whole request is refused with RANGE naming the first that
fails. -/
def Obligations.SetChannelWritesItsField : Prop :=
  ∀ (s : State) (r : Request) (rest : List Request) (b c : Byte) (fields : List (Byte × BitVec 32)), s.carriesOut r rest →
    r.code = 0x09 → r.payload = b :: c :: (fields.map fieldBytes).flatten →
    (3 < b.toNat → exec .profileSetChannel s = .next (s.answeredWith r rest .range 0xF0 []))
    ∧ (b.toNat ≤ 3 → c = 0 ∨ 12 < c.toNat → exec .profileSetChannel s = .next (s.answeredWith r rest .range 0xF1 []))
    ∧ ∀ (k : Fin 4) (ch : Channel), b.toNat = k.val → c.toNat = ch.val + 1 →
      (s.store.selected = some k → exec .profileSetChannel s = .next (s.answeredWith r rest .inUse 0 []))
      ∧ ∀ (rev : BitVec 16) (p : Profile), s.store.selected ≠ some k → startsFrom (s.store.slots.get k) rev p →
        (∀ d, writesAll writesChannel [] fields (p.chans.get ch) d →
          ∃ t chans, exec .profileSetChannel s = .next t
            ∧ t.store.slots.get k = .draft rev { p with chans := chans } ∧ chans.get ch = d
            ∧ (∀ i, i ≠ ch → chans.get i = p.chans.get i)
            ∧ (∀ j, j ≠ k → t.store.slots.get j = s.store.slots.get j)
            ∧ t = { s with store := { s.store with slots := t.store.slots } }.answeredWith r rest .ok 0
                (littleEndian 2 rev.toNat))
        ∧ (∀ tag, refusesAt writesChannel [] fields (p.chans.get ch) tag →
          exec .profileSetChannel s = .next (s.answeredWith r rest .range tag []))

/-- The number that stands in some bytes at an offset, least significant byte first (R171). -/
def fieldAt (l : List Byte) (offset width : Nat) : Nat := ofLittleEndian ((l.drop offset).take width)

/-- The code of an edge selection (Table 11-8). -/
def edgeCode (e : EdgeSelection) : Nat :=
  match e with
  | .rising => 0
  | .falling => 1
  | .both => 2

/-- The profile block of Table 11-6: every field of the contents in its place. -/
def blockShows (l : List Byte) (p : Profile) : Prop :=
  l.length = 102 ∧ fieldAt l 0 2 = p.channelSet.toNat ∧ fieldAt l 2 2 = p.tickDivisor.toNat
    ∧ fieldAt l 4 4 = p.windowLimit.toNat
    ∧ fieldAt l 8 1 = (match p.startSource with | .external => 0 | .host => 1 | .either => 2 | .immediate => 3)
    ∧ fieldAt l 9 1 = edgeCode p.startEdge ∧ fieldAt l 10 2 = p.startSpacing.toNat
    ∧ fieldAt l 12 1 = (match p.overlap with | .ignore => 0 | .restart => 1)
    ∧ fieldAt l 13 2 = p.runLength.toNat ∧ fieldAt l 15 2 = p.holdoff.toNat
    ∧ fieldAt l 17 1 = (match p.full with | .hold => 0 | .discard => 1)
    ∧ ∀ i : Channel, fieldAt l (18 + 7 * i.val) 1 = edgeCode (p.chans.get i).stopEdge
        ∧ fieldAt l (19 + 7 * i.val) 2 = (p.chans.get i).spacing.toNat
        ∧ fieldAt l (21 + 7 * i.val) 1 = (p.chans.get i).quota.toNat
        ∧ fieldAt l (22 + 7 * i.val) 2 = (p.chans.get i).blanking.toNat
        ∧ fieldAt l (24 + 7 * i.val) 1 = if (p.chans.get i).trace = true then 1 else 0

/-- PROFILE_READ (R111 to R113, Tables 11-5, 11-6 and 11-8): of a slot, its state, number and revision, and, unless it is
EMPTY, the 102 bytes of its contents, every field in its place; of ACTIVE, READY with the source slot, the revision and
the contents of the copy, or NO_PROFILE where there is none; a slot number above 3 is refused with RANGE; nothing else
changes. -/
def Obligations.ProfileReadShowsContents : Prop :=
  ∀ (s : State) (r : Request) (rest : List Request) (b : Byte), s.carriesOut r rest → r.code = 0x0A →
    r.payload = [b] →
    (b = 0xFF → s.engine.active = none → exec .profileRead s = .next (s.answeredWith r rest .noProfile 0 []))
    ∧ (∀ a, b = 0xFF → s.engine.active = some a →
      ∃ block, blockShows block a.profile
        ∧ exec .profileRead s = .next (s.answeredWith r rest .ok 0
          ([0x02, BitVec.ofNat 8 a.slot.val] ++ littleEndian 2 a.revision.toNat ++ block)))
    ∧ (∀ k : Fin 4, b.toNat = k.val →
      (s.store.slots.get k = .empty → exec .profileRead s = .next (s.answeredWith r rest .ok 0 [0x00, b, 0x00, 0x00]))
      ∧ (∀ rev p, s.store.slots.get k = .draft rev p →
        ∃ block, blockShows block p
          ∧ exec .profileRead s = .next (s.answeredWith r rest .ok 0 ([0x01, b] ++ littleEndian 2 rev.toNat ++ block)))
      ∧ (∀ rev p, s.store.slots.get k = .ready rev p →
        ∃ block, blockShows block p
          ∧ exec .profileRead s = .next (s.answeredWith r rest .ok 0 ([0x02, b] ++ littleEndian 2 rev.toNat ++ block))))
    ∧ (3 < b.toNat → b ≠ 0xFF → exec .profileRead s = .next (s.answeredWith r rest .range 0xF0 []))

/-- The four conditions of Table 6-3 for a channel set, in order, with the code of the first that holds and the channel it
names, 0 where it names none (R103). -/
def firstFailure (p : Profile) (code channel : Byte) : Prop :=
  (p.channelSet = 0 ∧ code = 1 ∧ channel = 0)
    ∨ (p.channelSet ≠ 0 ∧ code = 2 ∧ ∃ i : Channel, channel.toNat = i.val + 1 ∧ inSet p.channelSet i = true
        ∧ p.windowLimit.toNat ≤ (p.chans.get i).blanking.toNat
        ∧ ∀ j : Channel, j.val < i.val → inSet p.channelSet j = true →
            (p.chans.get j).blanking.toNat < p.windowLimit.toNat)
    ∨ (p.channelSet ≠ 0
        ∧ (∀ j, inSet p.channelSet j = true → (p.chans.get j).blanking.toNat < p.windowLimit.toNat)
        ∧ ((code = 3 ∧ ∃ i : Channel, channel.toNat = i.val + 1 ∧ inSet p.channelSet i = true
              ∧ 1 < (p.chans.get i).quota.toNat
              ∧ p.windowLimit.toNat * p.tickDivisor.toNat ≤ (p.chans.get i).spacing.toNat
              ∧ ∀ j : Channel, j.val < i.val → inSet p.channelSet j = true → 1 < (p.chans.get j).quota.toNat →
                  (p.chans.get j).spacing.toNat < p.windowLimit.toNat * p.tickDivisor.toNat)
          ∨ (code = 4 ∧ channel = 0 ∧ p.overlap = .restart ∧ p.startSource = .immediate
              ∧ ∀ j : Channel, inSet p.channelSet j = true → 1 < (p.chans.get j).quota.toNat →
                  (p.chans.get j).spacing.toNat < p.windowLimit.toNat * p.tickDivisor.toNat)))

/-- PROFILE_CHECK (R96, R102 to R104): a DRAFT slot that meets none of the four conditions becomes READY with its revision
incremented, wrapping from 65,535 to 1; one that meets a condition stays and is answered with the first and its channel;
a READY slot is answered with its revision, an EMPTY one with NOT_READY, and a slot number above 3 with RANGE. -/
def Obligations.ProfileCheckMakesReady : Prop :=
  ∀ (s : State) (r : Request) (rest : List Request) (b : Byte), s.carriesOut r rest → r.code = 0x0B → r.payload = [b] →
    (3 < b.toNat → exec .profileCheck s = .next (s.answeredWith r rest .range 0xF0 []))
    ∧ ∀ k : Fin 4, b.toNat = k.val →
      (s.store.slots.get k = .empty → exec .profileCheck s = .next (s.answeredWith r rest .notReady 0 []))
      ∧ (∀ rev p, s.store.slots.get k = .ready rev p →
        exec .profileCheck s = .next (s.answeredWith r rest .ok 0 (littleEndian 2 rev.toNat)))
      ∧ (∀ rev p code channel, s.store.slots.get k = .draft rev p → firstFailure p code channel →
        exec .profileCheck s = .next (s.answeredWith r rest .checkFailed code [channel]))
      ∧ (∀ rev p new, s.store.slots.get k = .draft rev p → (∀ code channel, ¬ firstFailure p code channel) →
        new = (if rev = 0xFFFF then 1 else rev + 1) →
        ∃ t, exec .profileCheck s = .next t ∧ t.store.slots.get k = .ready new p
          ∧ (∀ j, j ≠ k → t.store.slots.get j = s.store.slots.get j)
          ∧ t = { s with store := { s.store with slots := t.store.slots } }.answeredWith r rest .ok 0
              (littleEndian 2 new.toNat))

/-- PROFILE_SELECT (R106 to R109): NONE cancels; a slot number above 3 is refused with RANGE and an EMPTY or DRAFT slot with
NOT_READY; a READY slot is made pending outside IDLE, and in IDLE becomes the active profile at once, the lines conditioned
under it, no selection pending, and PROFILE_TAKEN passed with run number 0. -/
def Obligations.ProfileSelectActs : Prop :=
  (∀ (s : State) (r : Request) (rest : List Request) (b : Byte), s.carriesOut r rest → r.code = 0x0C →
    r.payload = [b] →
    (b = 0xFF → exec .profileSelect s
      = .next ({ s with store := { s.store with selected := none } }.answeredWith r rest .ok 0 [0x02]))
    ∧ (3 < b.toNat → b ≠ 0xFF → exec .profileSelect s = .next (s.answeredWith r rest .range 0xF0 []))
    ∧ ∀ k : Fin 4, b.toNat = k.val →
      (s.store.slots.get k = .empty → exec .profileSelect s = .next (s.answeredWith r rest .notReady 0 []))
      ∧ (∀ rev p, s.store.slots.get k = .draft rev p →
          exec .profileSelect s = .next (s.answeredWith r rest .notReady 0 []))
      ∧ (∀ rev p, s.store.slots.get k = .ready rev p → s.engine.state ≠ .idle →
          exec .profileSelect s
            = .next ({ s with store := { s.store with selected := some k } }.answeredWith r rest .ok 0 [0x00])))
  ∧ (∀ (s : State) (r : Request) (rest : List Request) (b : Byte) (k : Fin 4) (rev : BitVec 16) (p : Profile),
    s.carriesOut r rest → r.code = 0x0C → r.payload = [b] → b.toNat = k.val → s.store.slots.get k = .ready rev p →
    s.engine.state = .idle →
    ∃ t, exec .profileSelect s = .next t ∧ linesUnder p s.inputs t.inputs
      ∧ t.inputs.rejectedStarts = s.inputs.rejectedStarts
      ∧ t = { s with
          inputs := t.inputs
          engine := { s.engine with active := some ⟨k, rev, p⟩ }
          store := { s.store with selected := none }
          link := postEvent s.now (.profileTaken k rev 0) s.link }.answeredWith r rest .ok 0 [0x01])

/-! ### Requests: runs, cycles and results -/

/-- ARM (R27, R58, R80, R83): in IDLE with an active profile a new run begins, the rejected START count clears and ARMED
is entered, the reply carrying the run number; a pending selection is taken first, ending no run, its PROFILE_TAKEN
carrying the number of the new run. Outside IDLE it is refused with STATE, and with no profile at all with NO_PROFILE,
changing nothing. What the settings fields of PRIMED and OFF units hold is the model's choice (assumption 11). -/
def Obligations.ArmBeginsRun : Prop :=
  ∀ (s : State) (r : Request) (rest : List Request), s.carriesOut r rest → r.code = 0x0D →
    (s.engine.state ≠ .idle → exec .arm s = .next (s.answeredWith r rest .state 0 []))
    ∧ (s.engine.state = .idle → s.engine.active = none → s.store.selected = none →
      exec .arm s = .next (s.answeredWith r rest .noProfile 0 []))
    ∧ (∀ a, s.engine.state = .idle → s.engine.active = some a → s.store.selected = none →
      ∃ t, exec .arm s = .next (t.answeredWith r rest .ok 0 (littleEndian 2 (nextRun s.engine).toNat))
        ∧ entersArmed a
            { s with
              inputs := { s.inputs with rejectedStarts := 0 }
              engine := { s.engine with
                runNumber := nextRun s.engine, cyclesDone := 0, stopRequest := false, endReason := none } } t)
    ∧ (∀ k rev p, s.engine.state = .idle → s.store.selected = some k → s.store.slots.get k = .ready rev p →
      ∃ t lines, exec .arm s = .next (t.answeredWith r rest .ok 0 (littleEndian 2 (nextRun s.engine).toNat))
        ∧ linesUnder p s.inputs lines ∧ lines.rejectedStarts = 0
        ∧ entersArmed ⟨k, rev, p⟩
            { s with
              inputs := lines
              engine := { s.engine with
                active := some ⟨k, rev, p⟩, runNumber := nextRun s.engine, cyclesDone := 0, stopRequest := false,
                endReason := none }
              store := { s.store with selected := none }
              link := postEvent s.now (.profileTaken k rev (nextRun s.engine)) s.link } t)

/-- DISARM (R82, R87, R89): answered OK in every state; no effect in IDLE, the run's end DISARMED in ARMED and HOLDOFF,
and the stop request flag set in MEASURING and STALLED. What the settings fields of OFF units hold is the model's choice
(assumption 11). -/
def Obligations.DisarmEndsOrRequestsStop : Prop :=
  ∀ (s : State) (r : Request) (rest : List Request), s.carriesOut r rest → r.code = 0x0E →
    (s.engine.state = .idle → exec .disarm s = .next (s.answeredWith r rest .ok 0 []))
    ∧ (s.engine.state = .armed ∨ s.engine.state = .holdoff →
      exec .disarm s = .next ({ s with
        engine := s.engine.ended .disarmed
        units := allOff
        link := postEvent s.now (.runEnd s.engine.runNumber .disarmed s.engine.cyclesDone) s.link
          }.answeredWith r rest .ok 0 []))
    ∧ (s.engine.state = .measuring ∨ s.engine.state = .stalled →
      exec .disarm s
        = .next ({ s with engine := { s.engine with stopRequest := true } }.answeredWith r rest .ok 0 []))

/-- ABORT (R50, R52, R87, R119): answered OK; no effect in IDLE, the run's end ABORTED in ARMED and HOLDOFF; in STALLED
the held record is counted lost and the run ends, LOSS, STALL "left" and RUN_END passed in that order. What the settings
fields of OFF units hold is the model's choice (assumption 11). -/
def Obligations.AbortEndsTheRun : Prop :=
  ∀ (s : State) (r : Request) (rest : List Request), s.carriesOut r rest → r.code = 0x0F →
    (s.engine.state = .idle → exec .abort s = .next (s.answeredWith r rest .ok 0 []))
    ∧ (s.engine.state = .armed ∨ s.engine.state = .holdoff →
      exec .abort s = .next ({ s with
        engine := s.engine.ended .aborted
        units := allOff
        link := postEvent s.now (.runEnd s.engine.runNumber .aborted s.engine.cyclesDone) s.link
          }.answeredWith r rest .ok 0 []))
    ∧ (∀ held, s.engine.state = .stalled → s.engine.closeBuffer = some held →
      exec .abort s = .next ({ s with
        engine := { s.engine.ended .aborted with closeBuffer := none, cyclesDone := satInc s.engine.cyclesDone }
        units := allOff
        queue := s.queue.minus
        link := postEvent s.now (.runEnd s.engine.runNumber .aborted (satInc s.engine.cyclesDone))
          (postEvent s.now (.stall true held.record.number)
            (postEvent s.now (.loss held.record.number .abort held.record.missedBefore) s.link))
          }.answeredWith r rest .ok 0 []))

/-- ABORT in MEASURING (R42 to R45, R51, R70): the stop request flag is set, the units not concluded become ABORTED, the
cycle closes ABORTED, HOST, its record asks admission, and the ABORT is answered OK whatever the admission's answer. A
LOSS enters anywhere among the events of the close, a free value (assumption 25). What the settings fields of a unit hold
once its cycle is closed is the model's choice (assumption 11). -/
def Obligations.AbortClosesTheCycle : Prop :=
  ∀ (s : State) (r : Request) (rest : List Request) (a : ActiveProfile) (oc : OpenCycle)
    (after : Channel → ChannelUnit), s.carriesOut r rest → r.code = 0x0F → s.engine.state = .measuring →
    s.engine.cycle = some oc → s.engine.active = some a →
    (∀ i, after i = forcedUnit .aborted (s.units.get i)) →
    ∃ t, exec .abort s = .next (t.answeredWith r rest .ok 0 [])
      ∧ admissionAnswers
          { record := closedRecord (.aborted .host) oc s.engine.overlaps s.engine.missed s.time.elapsed after
            cost := closedCost oc after
            created := s.now }
          none a.profile.full
          (closedState oc after { s with engine := { s.engine with stopRequest := true } }) t

/-- The channel entry of Table 11-10: every field in its place, the times and the trace only when present. -/
def entryShows (l : List Byte) (e : ChannelEntry) : Prop :=
  l.length = 9 + (if e.firstTicks = none then 0 else 8) + 4 * (e.trace.getD []).length
    ∧ fieldAt l 0 1 = e.channel.val + 1
    ∧ fieldAt l 1 1 = (if e.firstTicks = none then 0 else 1) + (if e.trace = none then 0 else 2)
        + 16 * (e.trace.getD []).length
    ∧ fieldAt l 2 1 = (match e.outcome with | .done => 0 | .overrun => 1 | .aborted => 2)
    ∧ fieldAt l 3 1 = e.quota.toNat ∧ fieldAt l 4 1 = e.edgeCount.toNat ∧ fieldAt l 5 1 = e.early.toNat
    ∧ fieldAt l 6 1 = e.blanked.toNat ∧ fieldAt l 7 1 = e.rejected.toNat ∧ fieldAt l 8 1 = e.trailing.toNat
    ∧ (∀ a b, e.firstTicks = some a → e.lastTicks = some b → fieldAt l 9 4 = a.toNat ∧ fieldAt l 13 4 = b.toNat)
    ∧ ∀ (j : Nat) (t : Ticks), (e.trace.getD [])[j]? = some t →
        fieldAt l ((if e.firstTicks = none then 9 else 17) + 4 * j) 4 = t.toNat

/-- The cycle record of Table 11-9: every field in its place, then the channel entries in their order. -/
def recordShows (l : List Byte) (r : CycleRecord) : Prop :=
  fieldAt l 0 4 = r.number.toNat ∧ fieldAt l 4 2 = r.run.toNat ∧ fieldAt l 6 2 = r.index.toNat
    ∧ fieldAt l 8 1 = r.slot.val ∧ fieldAt l 9 2 = r.revision.toNat
    ∧ fieldAt l 11 1 = (match r.source with | .external => 0 | .host => 1 | .immediate => 3)
    ∧ fieldAt l 12 6 = r.stamp.toNat ∧ fieldAt l 18 2 = r.divisor.toNat ∧ fieldAt l 20 4 = r.windowLimit.toNat
    ∧ fieldAt l 24 1 = (match r.outcome with | .complete => 0 | .partly => 1 | .aborted _ => 2)
    ∧ fieldAt l 25 1 = (match r.outcome with
        | .complete => 0 | .partly => 0 | .aborted .host => 1 | .aborted .restart => 2)
    ∧ fieldAt l 26 4 = r.closeTicks.toNat ∧ fieldAt l 30 1 = r.overlaps.toNat
    ∧ fieldAt l 31 2 = r.missedBefore.toNat ∧ fieldAt l 33 2 = (r.lostBefore.getD 0).toNat
    ∧ fieldAt l 35 1 = r.entries.length
    ∧ ∃ parts : List (List Byte), l.drop 36 = parts.flatten ∧ List.Forall₂ entryShows parts r.entries

/-- RESULT_READ (R123, R124, Tables 11-5, 11-9 and 11-10): the record at the position, 0 when omitted, is carried whole with
its delivered mark, every field of a sound record in its place, and becomes delivered; a position past the end is answered
EMPTY, and one above 23 with RANGE. -/
def Obligations.ResultReadDelivers : Prop :=
  ∀ (s : State) (r : Request) (rest : List Request) (pos : Byte), s.carriesOut r rest → r.code = 0x11 →
    (r.payload = [pos] ∨ (r.payload = [] ∧ pos = 0)) →
    (23 < pos.toNat → exec .resultRead s = .next (s.answeredWith r rest .range 0xF2 []))
    ∧ (pos.toNat ≤ 23 → s.queue.entries.length ≤ pos.toNat →
      exec .resultRead s = .next (s.answeredWith r rest .empty 0 []))
    ∧ (∀ before e after, pos.toNat ≤ 23 → s.queue.entries = before ++ e :: after → before.length = pos.toNat →
      ∃ bytes, (e.record.sound → recordShows bytes e.record)
        ∧ exec .resultRead s = .next ({ s with
          queue := { s.queue with entries := before ++ { e with delivered := true } :: after }
            }.answeredWith r rest .ok 0 ((if e.delivered = true then 0x01 else 0x00) :: bytes)))

/-- R125: RESULT ACK is tested in order, UNKNOWN_CYCLE where no record carries the number, UNDELIVERED with the number of the
oldest undelivered record of the span; in either refusal nothing is removed and nothing changes. -/
def Obligations.ResultAckIsTested : Prop :=
  ∀ (s : State) (r : Request) (rest : List Request) (n0 n1 n2 n3 : Byte) (n : Nat), s.carriesOut r rest →
    r.code = 0x12 → r.payload = [n0, n1, n2, n3] →
    n = n0.toNat + 256 * n1.toNat + 65536 * n2.toNat + 16777216 * n3.toNat →
    ((∀ e ∈ s.queue.entries, e.record.number.toNat ≠ n) →
      exec .resultAck s = .next (s.answeredWith r rest .unknownCycle 0 []))
    ∧ (∀ delivered first between after, s.queue.entries = delivered ++ first :: (between ++ after) →
      (∀ e ∈ delivered, e.delivered = true ∧ e.record.number.toNat ≠ n) → first.delivered = false →
      (∃ e ∈ first :: between, e.record.number.toNat = n) →
      exec .resultAck s
        = .next (s.answeredWith r rest .undelivered 0 (littleEndian 4 first.record.number.toNat)))

/-- The RESULT ACK reply's payload: the number removed, whether a held record was admitted, and the oldest left
(R126, Table 11-5). -/
def ackReply (removed : Nat) (admitted : Bool) (left : List QueueEntry) : List Byte :=
  [BitVec.ofNat 8 removed, (if admitted = true then 0x01 else 0x00), (if left = [] then 0x00 else 0x01)]
    ++ littleEndian 4 ((left.head?.map fun (w : QueueEntry) => w.record.number.toNat).getD 0)

/-- RESULT_ACK carried out (R47, R122, R126): every record from the oldest through the one named leaves with its cost, the
rest keep their order and marks, and the reply tells the number removed and the oldest left. With no record held nothing
more happens; a held record that still does not fit stays held; one that now fits is admitted with its loss count, STALL
"left" is passed, and the after-close sequence follows. -/
def Obligations.ResultAckReleases : Prop :=
  ∀ (s : State) (r : Request) (rest : List Request) (n0 n1 n2 n3 : Byte) (before after : List QueueEntry)
    (e : QueueEntry) (freed : ResultQueue), s.carriesOut r rest → r.code = 0x12 → r.payload = [n0, n1, n2, n3] →
    s.queue.entries = before ++ e :: after → (∀ w ∈ before, w.record.number ≠ e.record.number) →
    e.record.number.toNat = n0.toNat + 256 * n1.toNat + 65536 * n2.toNat + 16777216 * n3.toNat →
    e.delivered = true → (∀ w ∈ before, w.delivered = true) →
    freed = { s.queue with
      entries := after
      used := ⟨s.queue.used.records - (before.length + 1),
        s.queue.used.entries - (((before ++ [e]).map fun w => w.cost.entries).sum),
        s.queue.used.traces - (((before ++ [e]).map fun w => w.cost.traces).sum)⟩ } →
    (s.engine.closeBuffer = none →
      exec .resultAck s = .next ({ s with queue := freed }.answeredWith r rest .ok 0
        (ackReply (before.length + 1) false after)))
    ∧ (∀ held, s.engine.closeBuffer = some held → ¬ freed.hasRoom held.cost held.record.number →
      exec .resultAck s = .next ({ s with queue := freed }.answeredWith r rest .ok 0
        (ackReply (before.length + 1) false after)))
    ∧ (∀ held t, s.engine.closeBuffer = some held → freed.hasRoom held.cost held.record.number →
      t = afterClose held.record.outcome none { s with
        queue := freed.plus held.record held.cost held.created
        engine := { s.engine with closeBuffer := none }
        link := postEvent s.now (.stall true held.record.number) s.link } →
      exec .resultAck s = .next (t.answeredWith r rest .ok 0
        (ackReply (before.length + 1) true (freed.plus held.record held.cost held.created).entries)))

/-- QUEUE_STATUS (R127, Table 11-5): the 35 bytes after the status and detail; nothing else changes. -/
def Obligations.QueueStatusCounts : Prop :=
  ∀ (s : State) (r : Request) (rest : List Request), s.carriesOut r rest → r.code = 0x13 → s.queue.sound →
    ∃ body, exec .queueStatus s = .next (s.answeredWith r rest .ok 0 body) ∧ body.length = 35
      ∧ ofLittleEndian (body.take 1) = s.queue.entries.length
      ∧ ofLittleEndian ((body.drop 1).take 1) = (s.queue.entries.filter fun e => e.delivered).length
      ∧ ofLittleEndian ((body.drop 2).take 1) = s.queue.used.records
      ∧ ofLittleEndian ((body.drop 3).take 2) = s.queue.used.entries
      ∧ ofLittleEndian ((body.drop 5).take 2) = s.queue.used.traces
      ∧ (s.queue.entries = [] → (body.drop 7).take 9 = [0, 0, 0, 0, 0, 0, 0, 0, 0])
      ∧ (∀ e ∈ s.queue.entries.head?, body.getD 7 0xFF = 1
          ∧ ofLittleEndian ((body.drop 8).take 4) = e.record.number.toNat)
      ∧ (∀ e ∈ s.queue.entries.getLast?, ofLittleEndian ((body.drop 12).take 4) = e.record.number.toNat)
      ∧ ofLittleEndian ((body.drop 16).take 2) = s.queue.pendingLoss.toNat
      ∧ ofLittleEndian ((body.drop 18).take 8) = s.queue.totalAdmitted.toNat
      ∧ ofLittleEndian ((body.drop 26).take 8) = s.queue.totalLost.toNat
      ∧ body.getD 34 0xFF = (if s.engine.closeBuffer = none then 0 else 1)

/-! ### The whole part -/

/-- Every invariant below holds of the part right after reset. What the settings fields of OFF units hold is the model's
choice (assumption 11). -/
def Obligations.SoundAtReset : Prop :=
  State.reset.accounted ∧ State.reset.engineShaped ∧ State.reset.unitsShaped ∧ State.reset.profilesSound
    ∧ State.reset.queue.sound ∧ State.reset.link.sound ∧ State.reset.recordsSound ∧ State.reset.runBounded

/-- Every step keeps the accounting of cycles, the engine's columns of Figure 3-1, and a run within its length (R45, R46,
R81): the cycles started equal the records admitted plus the records lost, plus one while MEASURING or STALLED. -/
def Obligations.StepsKeepCyclesAccounted : Prop :=
  ∀ s t : State, s.accounted → s.engineShaped → s.runBounded → step s = .next t →
    t.accounted ∧ t.engineShaped ∧ t.runBounded

/-- Every step keeps the units of Figure 3-1: OFF outside the set and in IDLE, PRIMED in ARMED, measuring with the cycle
open in MEASURING, concluded with it closed in STALLED and HOLDOFF (R57 to R61, R71). What the settings fields of OFF
units hold is the model's choice (assumption 11). -/
def Obligations.StepsKeepUnitsShaped : Prop :=
  ∀ s t : State, s.engineShaped → s.unitsShaped → step s = .next t → t.unitsShaped

/-- Every step keeps the Profile Store sound: fields in range, READY slots and the active profile passing the check under a
nonzero revision, and the pending selection naming a READY slot (R96, R97, R104, R105, R110). -/
def Obligations.StepsKeepProfilesSound : Prop :=
  ∀ s t : State, s.profilesSound → step s = .next t → t.profilesSound

/-- Every step keeps the Result Queue sound: occupancies equal the costs of the records held and never pass the capacities,
and cycle numbers in the queue are unique (R114, R116, R121). -/
def Obligations.StepsKeepQueueSound : Prop :=
  ∀ s t : State, s.queue.sound → step s = .next t → t.queue.sound

/-- Every step keeps the Host Link sound: its queues within their capacities, the waiting requests different ones, held reports in different slots at attempt
counts 1 to 4, timers only in an OPEN session, and no report in a CLOSED one (R141, R146, R148, R153, R162, R163, R167). -/
def Obligations.StepsKeepHostLinkSound : Prop :=
  ∀ s t : State, s.link.sound → step s = .next t → t.link.sound

/-- Every step keeps every record sound (R41, R43, R44, R72): whatever the inputs and their order, each record the part
holds has the entries, times and outcomes its rules allow. -/
def Obligations.StepsKeepRecordsSound : Prop :=
  ∀ s t : State, s.engineShaped → s.unitsShaped → s.profilesSound → s.recordsSound → step s = .next t → t.recordsSound

/-- The engine leaves IDLE by no command but ARM, in any state Figure 3-1 allows (R28). A command other than a reset leaves the
cycle counter as it was, or adds one and begins the cycle of that number; none changes the epoch counter (R2, R29). -/
def Obligations.OnlyArmLeavesIdleAndCountersCount : Prop :=
  (∀ (s t : State) (c : Instr), s.engineShaped → s.engine.state = .idle → exec c s = .next t →
    t.engine.state ≠ .idle → c = .arm)
  ∧ (∀ (s t : State) (c : Instr), (∀ b1 b0, c ≠ .resetNRelease b1 b0) → (∀ b1 b0, c ≠ .requestReset b1 b0) →
    c ≠ .pinReset → exec c s = .next t →
    t.time.epoch = s.time.epoch
      ∧ (t.engine.cycleCounter = s.engine.cycleCounter
        ∨ (t.engine.cycleCounter = s.engine.cycleCounter + 1
          ∧ t.engine.overlaps = 0
          ∧ ∃ oc, t.engine.cycle = some oc ∧ oc.number = t.engine.cycleCounter ∧ oc.stamp = s.time.epoch)))

end
end

