-- ==== Sys2Proof/Laws/Banks.lean ====
section
/-! SUPPORT. Reading a bank of twelve channels or four slots after a write, and the members of a channel set. -/

namespace Sys2Proof

/-- Every channel is one of the twelve. -/
theorem channel_cases (P : Channel → Prop) (h0 : P 0) (h1 : P 1) (h2 : P 2) (h3 : P 3) (h4 : P 4) (h5 : P 5) (h6 : P 6)
    (h7 : P 7) (h8 : P 8) (h9 : P 9) (h10 : P 10) (h11 : P 11) (i : Channel) : P i := by
  fin_cases i <;> assumption

@[simp] theorem Twelve.get_ofFn {α : Type} (f : Channel → α) (i : Channel) : (Twelve.ofFn f).get i = f i := by
  refine channel_cases (fun i => (Twelve.ofFn f).get i = f i) ?_ ?_ ?_ ?_ ?_ ?_ ?_ ?_ ?_ ?_ ?_ ?_ i <;> rfl

/-- Two banks whose members agree are equal. -/
theorem Twelve.ext_get {α : Type} {a b : Twelve α} (h : ∀ i, a.get i = b.get i) : a = b := by
  cases a
  cases b
  simp only [Twelve.mk.injEq]
  exact ⟨h 0, h 1, h 2, h 3, h 4, h 5, h 6, h 7, h 8, h 9, h 10, h 11⟩

@[simp] theorem Twelve.get_all {α : Type} (a : α) (i : Channel) : (Twelve.all a).get i = a := by
  simp [Twelve.all]

@[simp] theorem Twelve.get_set_same {α : Type} (t : Twelve α) (i : Channel) (a : α) : (t.set i a).get i = a := by
  simp [Twelve.set]

theorem Twelve.get_set_ne {α : Type} (t : Twelve α) {i j : Channel} (a : α) (h : j ≠ i) :
    (t.set i a).get j = t.get j := by
  simp [Twelve.set, h]

theorem Twelve.get_set {α : Type} (t : Twelve α) (i j : Channel) (a : α) :
    (t.set i a).get j = if j = i then a else t.get j := by
  simp [Twelve.set]

@[simp] theorem Twelve.set_set {α : Type} (t : Twelve α) (i : Channel) (a b : α) : (t.set i a).set i b = t.set i b :=
  Twelve.ext_get fun j => by simp only [Twelve.get_set]; split <;> rfl

/-- Writing back what a bank holds changes nothing. -/
@[simp] theorem Twelve.set_get {α : Type} (t : Twelve α) (i : Channel) : t.set i (t.get i) = t := by
  refine Twelve.ext_get fun j => ?_
  rw [Twelve.get_set]
  split
  · rename_i h
    rw [h]
  · rfl

@[simp] theorem Twelve.ofFn_get {α : Type} (t : Twelve α) : (Twelve.ofFn fun i => t.get i) = t :=
  Twelve.ext_get fun i => by simp

@[simp] theorem Four.get_ofFn {α : Type} (f : Fin 4 → α) (i : Fin 4) : (Four.ofFn f).get i = f i := by
  fin_cases i <;> rfl

theorem Four.ext_get {α : Type} {a b : Four α} (h : ∀ i, a.get i = b.get i) : a = b := by
  cases a
  cases b
  simp only [Four.mk.injEq]
  exact ⟨h 0, h 1, h 2, h 3⟩

@[simp] theorem Four.get_set_same {α : Type} (t : Four α) (i : Fin 4) (a : α) : (t.set i a).get i = a := by
  simp [Four.set]

theorem Four.get_set_ne {α : Type} (t : Four α) {i j : Fin 4} (a : α) (h : j ≠ i) : (t.set i a).get j = t.get j := by
  simp [Four.set, h]

theorem Four.get_set {α : Type} (t : Four α) (i j : Fin 4) (a : α) :
    (t.set i a).get j = if j = i then a else t.get j := by
  simp [Four.set]

namespace Machine

/-- Every channel is in the list of channels. -/
@[simp] theorem mem_channels (i : Channel) : i ∈ channels := by
  fin_cases i <;> decide

/-- A member of a set's list is a member of the set. -/
@[simp] theorem mem_setMembers (set : ChannelSet) (i : Channel) : i ∈ setMembers set ↔ inSet set i = true := by
  simp [setMembers]

/-- A test passes on every unit of a set exactly when it passes on each. -/
theorem allUnits_iff (set : ChannelSet) (units : Twelve ChannelUnit) (test : ChannelUnit → Bool) :
    allUnits set units test = true ↔ ∀ i, inSet set i = true → test (units.get i) = true := by
  simp [allUnits]

@[simp] theorem get_mapUnits (set : ChannelSet) (f : ChannelUnit → ChannelUnit) (units : Twelve ChannelUnit)
    (i : Channel) : (mapUnits set f units).get i = if inSet set i = true then f (units.get i) else units.get i := by
  simp [mapUnits]

@[simp] theorem get_armUnits (set : ChannelSet) (units : Twelve ChannelUnit) (i : Channel) :
    (armUnits set units).get i = if inSet set i = true then primeUnit (units.get i) else ChannelUnit.offUnit := by
  simp [armUnits]

@[simp] theorem get_startUnits (p : Profile) (units : Twelve ChannelUnit) (i : Channel) :
    (startUnits p units).get i
      = if inSet p.channelSet i = true then startUnit (p.chans.get i) (units.get i) else units.get i := by
  simp [startUnits]

@[simp] theorem get_restartUnits (p : Profile) (units : Twelve ChannelUnit) (i : Channel) :
    (restartUnits p units).get i
      = if inSet p.channelSet i = true then restartUnit (p.chans.get i) (units.get i) else units.get i := by
  simp [restartUnits]

@[simp] theorem get_clearStopFilters (c : Conditioner) (i : Channel) :
    (clearStopFilters c).stops.get i = clearFilter (c.stops.get i) := by
  simp [clearStopFilters]

@[simp] theorem get_recondition (p : Profile) (c : Conditioner) (i : Channel) :
    (recondition p c).stops.get i
      = conditionLine (c.stops.get i) (inSet p.channelSet i) (p.chans.get i).stopEdge (p.chans.get i).spacing := by
  simp [recondition]

end Machine

end Sys2Proof
end

