-- ==== Sys2Proof/Laws/State.lean ====
section
/-! SUPPORT. What each update of the state leaves alone: one lemma per update and field, true by rfl, so that no proof
unfolds a record update to read an untouched block. -/

namespace Sys2Proof.Machine

@[simp] theorem State.post_pins (e : Event) (s : State) : (s.post e).pins = s.pins := rfl
@[simp] theorem State.post_held (e : Event) (s : State) : (s.post e).held = s.held := rfl
@[simp] theorem State.post_time (e : Event) (s : State) : (s.post e).time = s.time := rfl
@[simp] theorem State.post_inputs (e : Event) (s : State) : (s.post e).inputs = s.inputs := rfl
@[simp] theorem State.post_engine (e : Event) (s : State) : (s.post e).engine = s.engine := rfl
@[simp] theorem State.post_units (e : Event) (s : State) : (s.post e).units = s.units := rfl
@[simp] theorem State.post_store (e : Event) (s : State) : (s.post e).store = s.store := rfl
@[simp] theorem State.post_queue (e : Event) (s : State) : (s.post e).queue = s.queue := rfl
@[simp] theorem State.post_sampled (e : Event) (s : State) : (s.post e).sampled = s.sampled := rfl
@[simp] theorem State.post_taking (e : Event) (s : State) : (s.post e).taking = s.taking := rfl
@[simp] theorem State.post_choices (e : Event) (s : State) : (s.post e).choices = s.choices := rfl
@[simp] theorem State.post_pending (e : Event) (s : State) : (s.post e).pending = s.pending := rfl

@[simp] theorem popIntake_pins (s : State) : (popIntake s).pins = s.pins := rfl
@[simp] theorem popIntake_held (s : State) : (popIntake s).held = s.held := rfl
@[simp] theorem popIntake_time (s : State) : (popIntake s).time = s.time := rfl
@[simp] theorem popIntake_inputs (s : State) : (popIntake s).inputs = s.inputs := rfl
@[simp] theorem popIntake_engine (s : State) : (popIntake s).engine = s.engine := rfl
@[simp] theorem popIntake_units (s : State) : (popIntake s).units = s.units := rfl
@[simp] theorem popIntake_store (s : State) : (popIntake s).store = s.store := rfl
@[simp] theorem popIntake_queue (s : State) : (popIntake s).queue = s.queue := rfl
@[simp] theorem popIntake_sampled (s : State) : (popIntake s).sampled = s.sampled := rfl
@[simp] theorem popIntake_taking (s : State) : (popIntake s).taking = s.taking := rfl
@[simp] theorem popIntake_choices (s : State) : (popIntake s).choices = s.choices := rfl
@[simp] theorem popIntake_pending (s : State) : (popIntake s).pending = s.pending := rfl

@[simp] theorem forgetCopy_pins (r : Request) (s : State) : (forgetCopy r s).pins = s.pins := rfl
@[simp] theorem forgetCopy_held (r : Request) (s : State) : (forgetCopy r s).held = s.held := rfl
@[simp] theorem forgetCopy_time (r : Request) (s : State) : (forgetCopy r s).time = s.time := rfl
@[simp] theorem forgetCopy_inputs (r : Request) (s : State) : (forgetCopy r s).inputs = s.inputs := rfl
@[simp] theorem forgetCopy_engine (r : Request) (s : State) : (forgetCopy r s).engine = s.engine := rfl
@[simp] theorem forgetCopy_units (r : Request) (s : State) : (forgetCopy r s).units = s.units := rfl
@[simp] theorem forgetCopy_store (r : Request) (s : State) : (forgetCopy r s).store = s.store := rfl
@[simp] theorem forgetCopy_queue (r : Request) (s : State) : (forgetCopy r s).queue = s.queue := rfl
@[simp] theorem forgetCopy_sampled (r : Request) (s : State) : (forgetCopy r s).sampled = s.sampled := rfl
@[simp] theorem forgetCopy_taking (r : Request) (s : State) : (forgetCopy r s).taking = s.taking := rfl
@[simp] theorem forgetCopy_choices (r : Request) (s : State) : (forgetCopy r s).choices = s.choices := rfl
@[simp] theorem forgetCopy_pending (r : Request) (s : State) : (forgetCopy r s).pending = s.pending := rfl

@[simp] theorem answerFromCache_pins (r : Reply) (s : State) : (answerFromCache r s).pins = s.pins := rfl
@[simp] theorem answerFromCache_held (r : Reply) (s : State) : (answerFromCache r s).held = s.held := rfl
@[simp] theorem answerFromCache_time (r : Reply) (s : State) : (answerFromCache r s).time = s.time := rfl
@[simp] theorem answerFromCache_inputs (r : Reply) (s : State) : (answerFromCache r s).inputs = s.inputs := rfl
@[simp] theorem answerFromCache_engine (r : Reply) (s : State) : (answerFromCache r s).engine = s.engine := rfl
@[simp] theorem answerFromCache_units (r : Reply) (s : State) : (answerFromCache r s).units = s.units := rfl
@[simp] theorem answerFromCache_store (r : Reply) (s : State) : (answerFromCache r s).store = s.store := rfl
@[simp] theorem answerFromCache_queue (r : Reply) (s : State) : (answerFromCache r s).queue = s.queue := rfl
@[simp] theorem answerFromCache_sampled (r : Reply) (s : State) : (answerFromCache r s).sampled = s.sampled := rfl
@[simp] theorem answerFromCache_taking (r : Reply) (s : State) : (answerFromCache r s).taking = s.taking := rfl
@[simp] theorem answerFromCache_choices (r : Reply) (s : State) : (answerFromCache r s).choices = s.choices := rfl
@[simp] theorem answerFromCache_pending (r : Reply) (s : State) : (answerFromCache r s).pending = s.pending := rfl

@[simp] theorem completeWith_pins (r : Request) (a : Answer) (s : State) : (completeWith r a s).pins = s.pins := rfl
@[simp] theorem completeWith_held (r : Request) (a : Answer) (s : State) : (completeWith r a s).held = s.held := rfl
@[simp] theorem completeWith_time (r : Request) (a : Answer) (s : State) : (completeWith r a s).time = s.time := rfl
@[simp] theorem completeWith_inputs (r : Request) (a : Answer) (s : State) :
    (completeWith r a s).inputs = s.inputs := rfl
@[simp] theorem completeWith_engine (r : Request) (a : Answer) (s : State) :
    (completeWith r a s).engine = s.engine := rfl
@[simp] theorem completeWith_units (r : Request) (a : Answer) (s : State) :
    (completeWith r a s).units = s.units := rfl
@[simp] theorem completeWith_store (r : Request) (a : Answer) (s : State) :
    (completeWith r a s).store = s.store := rfl
@[simp] theorem completeWith_queue (r : Request) (a : Answer) (s : State) :
    (completeWith r a s).queue = s.queue := rfl
@[simp] theorem completeWith_sampled (r : Request) (a : Answer) (s : State) :
    (completeWith r a s).sampled = s.sampled := rfl
@[simp] theorem completeWith_taking (r : Request) (a : Answer) (s : State) :
    (completeWith r a s).taking = s.taking := rfl
@[simp] theorem completeWith_choices (r : Request) (a : Answer) (s : State) :
    (completeWith r a s).choices = s.choices := rfl
@[simp] theorem completeWith_pending (r : Request) (a : Answer) (s : State) :
    (completeWith r a s).pending = s.pending := rfl

@[simp] theorem beginRun_pins (s : State) : (beginRun s).pins = s.pins := rfl
@[simp] theorem beginRun_held (s : State) : (beginRun s).held = s.held := rfl
@[simp] theorem beginRun_time (s : State) : (beginRun s).time = s.time := rfl
@[simp] theorem beginRun_inputs (s : State) : (beginRun s).inputs = s.inputs := rfl
@[simp] theorem beginRun_units (s : State) : (beginRun s).units = s.units := rfl
@[simp] theorem beginRun_store (s : State) : (beginRun s).store = s.store := rfl
@[simp] theorem beginRun_queue (s : State) : (beginRun s).queue = s.queue := rfl
@[simp] theorem beginRun_link (s : State) : (beginRun s).link = s.link := rfl
@[simp] theorem beginRun_sampled (s : State) : (beginRun s).sampled = s.sampled := rfl
@[simp] theorem beginRun_taking (s : State) : (beginRun s).taking = s.taking := rfl
@[simp] theorem beginRun_choices (s : State) : (beginRun s).choices = s.choices := rfl
@[simp] theorem beginRun_pending (s : State) : (beginRun s).pending = s.pending := rfl

@[simp] theorem leaveRun_pins (reason : RunEndReason) (s : State) : (leaveRun reason s).pins = s.pins := rfl
@[simp] theorem leaveRun_held (reason : RunEndReason) (s : State) : (leaveRun reason s).held = s.held := rfl
@[simp] theorem leaveRun_time (reason : RunEndReason) (s : State) : (leaveRun reason s).time = s.time := rfl
@[simp] theorem leaveRun_inputs (reason : RunEndReason) (s : State) : (leaveRun reason s).inputs = s.inputs := rfl
@[simp] theorem leaveRun_store (reason : RunEndReason) (s : State) : (leaveRun reason s).store = s.store := rfl
@[simp] theorem leaveRun_queue (reason : RunEndReason) (s : State) : (leaveRun reason s).queue = s.queue := rfl
@[simp] theorem leaveRun_link (reason : RunEndReason) (s : State) : (leaveRun reason s).link = s.link := rfl
@[simp] theorem leaveRun_sampled (reason : RunEndReason) (s : State) : (leaveRun reason s).sampled = s.sampled := rfl
@[simp] theorem leaveRun_taking (reason : RunEndReason) (s : State) : (leaveRun reason s).taking = s.taking := rfl
@[simp] theorem leaveRun_choices (reason : RunEndReason) (s : State) : (leaveRun reason s).choices = s.choices := rfl
@[simp] theorem leaveRun_pending (reason : RunEndReason) (s : State) : (leaveRun reason s).pending = s.pending := rfl

@[simp] theorem passAll_pins (events : List Event) (s : State) : (passAll events s).pins = s.pins := rfl
@[simp] theorem passAll_held (events : List Event) (s : State) : (passAll events s).held = s.held := rfl
@[simp] theorem passAll_time (events : List Event) (s : State) : (passAll events s).time = s.time := rfl
@[simp] theorem passAll_inputs (events : List Event) (s : State) : (passAll events s).inputs = s.inputs := rfl
@[simp] theorem passAll_engine (events : List Event) (s : State) : (passAll events s).engine = s.engine := rfl
@[simp] theorem passAll_units (events : List Event) (s : State) : (passAll events s).units = s.units := rfl
@[simp] theorem passAll_store (events : List Event) (s : State) : (passAll events s).store = s.store := rfl
@[simp] theorem passAll_queue (events : List Event) (s : State) : (passAll events s).queue = s.queue := rfl
@[simp] theorem passAll_sampled (events : List Event) (s : State) : (passAll events s).sampled = s.sampled := rfl
@[simp] theorem passAll_taking (events : List Event) (s : State) : (passAll events s).taking = s.taking := rfl
@[simp] theorem passAll_choices (events : List Event) (s : State) : (passAll events s).choices = s.choices := rfl
@[simp] theorem passAll_pending (events : List Event) (s : State) : (passAll events s).pending = s.pending := rfl

@[simp] theorem endRun_pins (reason : RunEndReason) (s : State) : (endRun reason s).pins = s.pins := rfl
@[simp] theorem endRun_held (reason : RunEndReason) (s : State) : (endRun reason s).held = s.held := rfl
@[simp] theorem endRun_time (reason : RunEndReason) (s : State) : (endRun reason s).time = s.time := rfl
@[simp] theorem endRun_inputs (reason : RunEndReason) (s : State) : (endRun reason s).inputs = s.inputs := rfl
@[simp] theorem endRun_store (reason : RunEndReason) (s : State) : (endRun reason s).store = s.store := rfl
@[simp] theorem endRun_queue (reason : RunEndReason) (s : State) : (endRun reason s).queue = s.queue := rfl
@[simp] theorem endRun_sampled (reason : RunEndReason) (s : State) : (endRun reason s).sampled = s.sampled := rfl
@[simp] theorem endRun_taking (reason : RunEndReason) (s : State) : (endRun reason s).taking = s.taking := rfl
@[simp] theorem endRun_choices (reason : RunEndReason) (s : State) : (endRun reason s).choices = s.choices := rfl
@[simp] theorem endRun_pending (reason : RunEndReason) (s : State) : (endRun reason s).pending = s.pending := rfl

@[simp] theorem loadProfile_pins (k : Fin 4) (rev : BitVec 16) (p : Profile) (s : State) :
    (loadProfile k rev p s).pins = s.pins := rfl
@[simp] theorem loadProfile_held (k : Fin 4) (rev : BitVec 16) (p : Profile) (s : State) :
    (loadProfile k rev p s).held = s.held := rfl
@[simp] theorem loadProfile_time (k : Fin 4) (rev : BitVec 16) (p : Profile) (s : State) :
    (loadProfile k rev p s).time = s.time := rfl
@[simp] theorem loadProfile_units (k : Fin 4) (rev : BitVec 16) (p : Profile) (s : State) :
    (loadProfile k rev p s).units = s.units := rfl
@[simp] theorem loadProfile_queue (k : Fin 4) (rev : BitVec 16) (p : Profile) (s : State) :
    (loadProfile k rev p s).queue = s.queue := rfl
@[simp] theorem loadProfile_link (k : Fin 4) (rev : BitVec 16) (p : Profile) (s : State) :
    (loadProfile k rev p s).link = s.link := rfl
@[simp] theorem loadProfile_sampled (k : Fin 4) (rev : BitVec 16) (p : Profile) (s : State) :
    (loadProfile k rev p s).sampled = s.sampled := rfl
@[simp] theorem loadProfile_taking (k : Fin 4) (rev : BitVec 16) (p : Profile) (s : State) :
    (loadProfile k rev p s).taking = s.taking := rfl
@[simp] theorem loadProfile_choices (k : Fin 4) (rev : BitVec 16) (p : Profile) (s : State) :
    (loadProfile k rev p s).choices = s.choices := rfl
@[simp] theorem loadProfile_pending (k : Fin 4) (rev : BitVec 16) (p : Profile) (s : State) :
    (loadProfile k rev p s).pending = s.pending := rfl

@[simp] theorem openCycle_pins (src : StartTaken) (s : State) : (openCycle src s).pins = s.pins := rfl
@[simp] theorem openCycle_held (src : StartTaken) (s : State) : (openCycle src s).held = s.held := rfl
@[simp] theorem openCycle_units (src : StartTaken) (s : State) : (openCycle src s).units = s.units := rfl
@[simp] theorem openCycle_store (src : StartTaken) (s : State) : (openCycle src s).store = s.store := rfl
@[simp] theorem openCycle_queue (src : StartTaken) (s : State) : (openCycle src s).queue = s.queue := rfl
@[simp] theorem openCycle_link (src : StartTaken) (s : State) : (openCycle src s).link = s.link := rfl
@[simp] theorem openCycle_sampled (src : StartTaken) (s : State) : (openCycle src s).sampled = s.sampled := rfl
@[simp] theorem openCycle_taking (src : StartTaken) (s : State) : (openCycle src s).taking = s.taking := rfl
@[simp] theorem openCycle_choices (src : StartTaken) (s : State) : (openCycle src s).choices = s.choices := rfl
@[simp] theorem openCycle_pending (src : StartTaken) (s : State) : (openCycle src s).pending = s.pending := rfl

@[simp] theorem takeStart_pins (src : StartTaken) (s : State) : (takeStart src s).pins = s.pins := rfl
@[simp] theorem takeStart_held (src : StartTaken) (s : State) : (takeStart src s).held = s.held := rfl
@[simp] theorem takeStart_store (src : StartTaken) (s : State) : (takeStart src s).store = s.store := rfl
@[simp] theorem takeStart_queue (src : StartTaken) (s : State) : (takeStart src s).queue = s.queue := rfl
@[simp] theorem takeStart_link (src : StartTaken) (s : State) : (takeStart src s).link = s.link := rfl
@[simp] theorem takeStart_sampled (src : StartTaken) (s : State) : (takeStart src s).sampled = s.sampled := rfl
@[simp] theorem takeStart_taking (src : StartTaken) (s : State) : (takeStart src s).taking = s.taking := rfl
@[simp] theorem takeStart_choices (src : StartTaken) (s : State) : (takeStart src s).choices = s.choices := rfl
@[simp] theorem takeStart_pending (src : StartTaken) (s : State) : (takeStart src s).pending = s.pending := rfl

@[simp] theorem takeRestart_pins (src : StartTaken) (s : State) : (takeRestart src s).pins = s.pins := rfl
@[simp] theorem takeRestart_held (src : StartTaken) (s : State) : (takeRestart src s).held = s.held := rfl
@[simp] theorem takeRestart_store (src : StartTaken) (s : State) : (takeRestart src s).store = s.store := rfl
@[simp] theorem takeRestart_queue (src : StartTaken) (s : State) : (takeRestart src s).queue = s.queue := rfl
@[simp] theorem takeRestart_link (src : StartTaken) (s : State) : (takeRestart src s).link = s.link := rfl
@[simp] theorem takeRestart_sampled (src : StartTaken) (s : State) : (takeRestart src s).sampled = s.sampled := rfl
@[simp] theorem takeRestart_taking (src : StartTaken) (s : State) : (takeRestart src s).taking = s.taking := rfl
@[simp] theorem takeRestart_choices (src : StartTaken) (s : State) : (takeRestart src s).choices = s.choices := rfl
@[simp] theorem takeRestart_pending (src : StartTaken) (s : State) : (takeRestart src s).pending = s.pending := rfl

@[simp] theorem missStart_pins (s : State) : (missStart s).pins = s.pins := rfl
@[simp] theorem missStart_held (s : State) : (missStart s).held = s.held := rfl
@[simp] theorem missStart_time (s : State) : (missStart s).time = s.time := rfl
@[simp] theorem missStart_inputs (s : State) : (missStart s).inputs = s.inputs := rfl
@[simp] theorem missStart_units (s : State) : (missStart s).units = s.units := rfl
@[simp] theorem missStart_store (s : State) : (missStart s).store = s.store := rfl
@[simp] theorem missStart_queue (s : State) : (missStart s).queue = s.queue := rfl
@[simp] theorem missStart_link (s : State) : (missStart s).link = s.link := rfl
@[simp] theorem missStart_sampled (s : State) : (missStart s).sampled = s.sampled := rfl
@[simp] theorem missStart_taking (s : State) : (missStart s).taking = s.taking := rfl
@[simp] theorem missStart_choices (s : State) : (missStart s).choices = s.choices := rfl
@[simp] theorem missStart_pending (s : State) : (missStart s).pending = s.pending := rfl

@[simp] theorem countOverlap_pins (s : State) : (countOverlap s).pins = s.pins := rfl
@[simp] theorem countOverlap_held (s : State) : (countOverlap s).held = s.held := rfl
@[simp] theorem countOverlap_time (s : State) : (countOverlap s).time = s.time := rfl
@[simp] theorem countOverlap_inputs (s : State) : (countOverlap s).inputs = s.inputs := rfl
@[simp] theorem countOverlap_units (s : State) : (countOverlap s).units = s.units := rfl
@[simp] theorem countOverlap_store (s : State) : (countOverlap s).store = s.store := rfl
@[simp] theorem countOverlap_queue (s : State) : (countOverlap s).queue = s.queue := rfl
@[simp] theorem countOverlap_link (s : State) : (countOverlap s).link = s.link := rfl
@[simp] theorem countOverlap_sampled (s : State) : (countOverlap s).sampled = s.sampled := rfl
@[simp] theorem countOverlap_taking (s : State) : (countOverlap s).taking = s.taking := rfl
@[simp] theorem countOverlap_choices (s : State) : (countOverlap s).choices = s.choices := rfl
@[simp] theorem countOverlap_pending (s : State) : (countOverlap s).pending = s.pending := rfl

@[simp] theorem stopCycle_pins (oc : OpenCycle) (s : State) : (stopCycle oc s).pins = s.pins := rfl
@[simp] theorem stopCycle_held (oc : OpenCycle) (s : State) : (stopCycle oc s).held = s.held := rfl
@[simp] theorem stopCycle_inputs (oc : OpenCycle) (s : State) : (stopCycle oc s).inputs = s.inputs := rfl
@[simp] theorem stopCycle_store (oc : OpenCycle) (s : State) : (stopCycle oc s).store = s.store := rfl
@[simp] theorem stopCycle_queue (oc : OpenCycle) (s : State) : (stopCycle oc s).queue = s.queue := rfl
@[simp] theorem stopCycle_link (oc : OpenCycle) (s : State) : (stopCycle oc s).link = s.link := rfl
@[simp] theorem stopCycle_sampled (oc : OpenCycle) (s : State) : (stopCycle oc s).sampled = s.sampled := rfl
@[simp] theorem stopCycle_taking (oc : OpenCycle) (s : State) : (stopCycle oc s).taking = s.taking := rfl
@[simp] theorem stopCycle_choices (oc : OpenCycle) (s : State) : (stopCycle oc s).choices = s.choices := rfl
@[simp] theorem stopCycle_pending (oc : OpenCycle) (s : State) : (stopCycle oc s).pending = s.pending := rfl

@[simp] theorem stallWith_pins (r : ClosedRecord) (restart : Option StartTaken) (s : State) :
    (stallWith r restart s).pins = s.pins := rfl
@[simp] theorem stallWith_held (r : ClosedRecord) (restart : Option StartTaken) (s : State) :
    (stallWith r restart s).held = s.held := rfl
@[simp] theorem stallWith_time (r : ClosedRecord) (restart : Option StartTaken) (s : State) :
    (stallWith r restart s).time = s.time := rfl
@[simp] theorem stallWith_inputs (r : ClosedRecord) (restart : Option StartTaken) (s : State) :
    (stallWith r restart s).inputs = s.inputs := rfl
@[simp] theorem stallWith_units (r : ClosedRecord) (restart : Option StartTaken) (s : State) :
    (stallWith r restart s).units = s.units := rfl
@[simp] theorem stallWith_store (r : ClosedRecord) (restart : Option StartTaken) (s : State) :
    (stallWith r restart s).store = s.store := rfl
@[simp] theorem stallWith_queue (r : ClosedRecord) (restart : Option StartTaken) (s : State) :
    (stallWith r restart s).queue = s.queue := rfl
@[simp] theorem stallWith_sampled (r : ClosedRecord) (restart : Option StartTaken) (s : State) :
    (stallWith r restart s).sampled = s.sampled := rfl
@[simp] theorem stallWith_taking (r : ClosedRecord) (restart : Option StartTaken) (s : State) :
    (stallWith r restart s).taking = s.taking := rfl
@[simp] theorem stallWith_choices (r : ClosedRecord) (restart : Option StartTaken) (s : State) :
    (stallWith r restart s).choices = s.choices := rfl
@[simp] theorem stallWith_pending (r : ClosedRecord) (restart : Option StartTaken) (s : State) :
    (stallWith r restart s).pending = s.pending := rfl

@[simp] theorem setSlot_pins (k : Fin 4) (v : Slot) (s : State) : (setSlot k v s).pins = s.pins := rfl
@[simp] theorem setSlot_held (k : Fin 4) (v : Slot) (s : State) : (setSlot k v s).held = s.held := rfl
@[simp] theorem setSlot_time (k : Fin 4) (v : Slot) (s : State) : (setSlot k v s).time = s.time := rfl
@[simp] theorem setSlot_inputs (k : Fin 4) (v : Slot) (s : State) : (setSlot k v s).inputs = s.inputs := rfl
@[simp] theorem setSlot_engine (k : Fin 4) (v : Slot) (s : State) : (setSlot k v s).engine = s.engine := rfl
@[simp] theorem setSlot_units (k : Fin 4) (v : Slot) (s : State) : (setSlot k v s).units = s.units := rfl
@[simp] theorem setSlot_queue (k : Fin 4) (v : Slot) (s : State) : (setSlot k v s).queue = s.queue := rfl
@[simp] theorem setSlot_link (k : Fin 4) (v : Slot) (s : State) : (setSlot k v s).link = s.link := rfl
@[simp] theorem setSlot_sampled (k : Fin 4) (v : Slot) (s : State) : (setSlot k v s).sampled = s.sampled := rfl
@[simp] theorem setSlot_taking (k : Fin 4) (v : Slot) (s : State) : (setSlot k v s).taking = s.taking := rfl
@[simp] theorem setSlot_choices (k : Fin 4) (v : Slot) (s : State) : (setSlot k v s).choices = s.choices := rfl
@[simp] theorem setSlot_pending (k : Fin 4) (v : Slot) (s : State) : (setSlot k v s).pending = s.pending := rfl

@[simp] theorem selectSlot_pins (k : Option (Fin 4)) (s : State) : (selectSlot k s).pins = s.pins := rfl
@[simp] theorem selectSlot_held (k : Option (Fin 4)) (s : State) : (selectSlot k s).held = s.held := rfl
@[simp] theorem selectSlot_time (k : Option (Fin 4)) (s : State) : (selectSlot k s).time = s.time := rfl
@[simp] theorem selectSlot_inputs (k : Option (Fin 4)) (s : State) : (selectSlot k s).inputs = s.inputs := rfl
@[simp] theorem selectSlot_engine (k : Option (Fin 4)) (s : State) : (selectSlot k s).engine = s.engine := rfl
@[simp] theorem selectSlot_units (k : Option (Fin 4)) (s : State) : (selectSlot k s).units = s.units := rfl
@[simp] theorem selectSlot_queue (k : Option (Fin 4)) (s : State) : (selectSlot k s).queue = s.queue := rfl
@[simp] theorem selectSlot_link (k : Option (Fin 4)) (s : State) : (selectSlot k s).link = s.link := rfl
@[simp] theorem selectSlot_sampled (k : Option (Fin 4)) (s : State) : (selectSlot k s).sampled = s.sampled := rfl
@[simp] theorem selectSlot_taking (k : Option (Fin 4)) (s : State) : (selectSlot k s).taking = s.taking := rfl
@[simp] theorem selectSlot_choices (k : Option (Fin 4)) (s : State) : (selectSlot k s).choices = s.choices := rfl
@[simp] theorem selectSlot_pending (k : Option (Fin 4)) (s : State) : (selectSlot k s).pending = s.pending := rfl

@[simp] theorem requestStop_pins (s : State) : (requestStop s).pins = s.pins := rfl
@[simp] theorem requestStop_held (s : State) : (requestStop s).held = s.held := rfl
@[simp] theorem requestStop_time (s : State) : (requestStop s).time = s.time := rfl
@[simp] theorem requestStop_inputs (s : State) : (requestStop s).inputs = s.inputs := rfl
@[simp] theorem requestStop_units (s : State) : (requestStop s).units = s.units := rfl
@[simp] theorem requestStop_store (s : State) : (requestStop s).store = s.store := rfl
@[simp] theorem requestStop_queue (s : State) : (requestStop s).queue = s.queue := rfl
@[simp] theorem requestStop_link (s : State) : (requestStop s).link = s.link := rfl
@[simp] theorem requestStop_sampled (s : State) : (requestStop s).sampled = s.sampled := rfl
@[simp] theorem requestStop_taking (s : State) : (requestStop s).taking = s.taking := rfl
@[simp] theorem requestStop_choices (s : State) : (requestStop s).choices = s.choices := rfl
@[simp] theorem requestStop_pending (s : State) : (requestStop s).pending = s.pending := rfl

@[simp] theorem rejectStart_pins (s : State) : (rejectStart s).pins = s.pins := rfl
@[simp] theorem rejectStart_held (s : State) : (rejectStart s).held = s.held := rfl
@[simp] theorem rejectStart_time (s : State) : (rejectStart s).time = s.time := rfl
@[simp] theorem rejectStart_engine (s : State) : (rejectStart s).engine = s.engine := rfl
@[simp] theorem rejectStart_units (s : State) : (rejectStart s).units = s.units := rfl
@[simp] theorem rejectStart_store (s : State) : (rejectStart s).store = s.store := rfl
@[simp] theorem rejectStart_queue (s : State) : (rejectStart s).queue = s.queue := rfl
@[simp] theorem rejectStart_link (s : State) : (rejectStart s).link = s.link := rfl
@[simp] theorem rejectStart_sampled (s : State) : (rejectStart s).sampled = s.sampled := rfl
@[simp] theorem rejectStart_taking (s : State) : (rejectStart s).taking = s.taking := rfl
@[simp] theorem rejectStart_choices (s : State) : (rejectStart s).choices = s.choices := rfl
@[simp] theorem rejectStart_pending (s : State) : (rejectStart s).pending = s.pending := rfl

@[simp] theorem armEngine_pins (s : State) : (armEngine s).pins = s.pins := rfl
@[simp] theorem armEngine_held (s : State) : (armEngine s).held = s.held := rfl
@[simp] theorem armEngine_time (s : State) : (armEngine s).time = s.time := rfl
@[simp] theorem armEngine_inputs (s : State) : (armEngine s).inputs = s.inputs := rfl
@[simp] theorem armEngine_store (s : State) : (armEngine s).store = s.store := rfl
@[simp] theorem armEngine_queue (s : State) : (armEngine s).queue = s.queue := rfl
@[simp] theorem armEngine_link (s : State) : (armEngine s).link = s.link := rfl
@[simp] theorem armEngine_sampled (s : State) : (armEngine s).sampled = s.sampled := rfl
@[simp] theorem armEngine_taking (s : State) : (armEngine s).taking = s.taking := rfl
@[simp] theorem armEngine_choices (s : State) : (armEngine s).choices = s.choices := rfl
@[simp] theorem armEngine_pending (s : State) : (armEngine s).pending = s.pending := rfl

@[simp] theorem moveLine_held (line : Line) (s : State) : (moveLine line s).held = s.held := rfl
@[simp] theorem moveLine_time (line : Line) (s : State) : (moveLine line s).time = s.time := rfl
@[simp] theorem moveLine_engine (line : Line) (s : State) : (moveLine line s).engine = s.engine := rfl
@[simp] theorem moveLine_units (line : Line) (s : State) : (moveLine line s).units = s.units := rfl
@[simp] theorem moveLine_store (line : Line) (s : State) : (moveLine line s).store = s.store := rfl
@[simp] theorem moveLine_queue (line : Line) (s : State) : (moveLine line s).queue = s.queue := rfl
@[simp] theorem moveLine_link (line : Line) (s : State) : (moveLine line s).link = s.link := rfl
@[simp] theorem moveLine_taking (line : Line) (s : State) : (moveLine line s).taking = s.taking := rfl
@[simp] theorem moveLine_choices (line : Line) (s : State) : (moveLine line s).choices = s.choices := rfl
@[simp] theorem moveLine_pending (line : Line) (s : State) : (moveLine line s).pending = s.pending := rfl

@[simp] theorem judgeLine_pins (line : Line) (s : State) : (judgeLine line s).pins = s.pins := rfl
@[simp] theorem judgeLine_held (line : Line) (s : State) : (judgeLine line s).held = s.held := rfl
@[simp] theorem judgeLine_time (line : Line) (s : State) : (judgeLine line s).time = s.time := rfl
@[simp] theorem judgeLine_engine (line : Line) (s : State) : (judgeLine line s).engine = s.engine := rfl
@[simp] theorem judgeLine_units (line : Line) (s : State) : (judgeLine line s).units = s.units := rfl
@[simp] theorem judgeLine_store (line : Line) (s : State) : (judgeLine line s).store = s.store := rfl
@[simp] theorem judgeLine_queue (line : Line) (s : State) : (judgeLine line s).queue = s.queue := rfl
@[simp] theorem judgeLine_link (line : Line) (s : State) : (judgeLine line s).link = s.link := rfl
@[simp] theorem judgeLine_sampled (line : Line) (s : State) : (judgeLine line s).sampled = s.sampled := rfl
@[simp] theorem judgeLine_taking (line : Line) (s : State) : (judgeLine line s).taking = s.taking := rfl
@[simp] theorem judgeLine_choices (line : Line) (s : State) : (judgeLine line s).choices = s.choices := rfl
@[simp] theorem judgeLine_pending (line : Line) (s : State) : (judgeLine line s).pending = s.pending := rfl

@[simp] theorem holdEdge_pins (line : Line) (s : State) : (holdEdge line s).pins = s.pins := rfl
@[simp] theorem holdEdge_held (line : Line) (s : State) : (holdEdge line s).held = s.held := rfl
@[simp] theorem holdEdge_time (line : Line) (s : State) : (holdEdge line s).time = s.time := rfl
@[simp] theorem holdEdge_engine (line : Line) (s : State) : (holdEdge line s).engine = s.engine := rfl
@[simp] theorem holdEdge_units (line : Line) (s : State) : (holdEdge line s).units = s.units := rfl
@[simp] theorem holdEdge_store (line : Line) (s : State) : (holdEdge line s).store = s.store := rfl
@[simp] theorem holdEdge_queue (line : Line) (s : State) : (holdEdge line s).queue = s.queue := rfl
@[simp] theorem holdEdge_link (line : Line) (s : State) : (holdEdge line s).link = s.link := rfl
@[simp] theorem holdEdge_taking (line : Line) (s : State) : (holdEdge line s).taking = s.taking := rfl
@[simp] theorem holdEdge_choices (line : Line) (s : State) : (holdEdge line s).choices = s.choices := rfl
@[simp] theorem holdEdge_pending (line : Line) (s : State) : (holdEdge line s).pending = s.pending := rfl

@[simp] theorem judgeSome_pins (s : State) : (judgeSome s).pins = s.pins := rfl
@[simp] theorem judgeSome_held (s : State) : (judgeSome s).held = s.held := rfl
@[simp] theorem judgeSome_time (s : State) : (judgeSome s).time = s.time := rfl
@[simp] theorem judgeSome_engine (s : State) : (judgeSome s).engine = s.engine := rfl
@[simp] theorem judgeSome_units (s : State) : (judgeSome s).units = s.units := rfl
@[simp] theorem judgeSome_store (s : State) : (judgeSome s).store = s.store := rfl
@[simp] theorem judgeSome_queue (s : State) : (judgeSome s).queue = s.queue := rfl
@[simp] theorem judgeSome_link (s : State) : (judgeSome s).link = s.link := rfl
@[simp] theorem judgeSome_taking (s : State) : (judgeSome s).taking = s.taking := rfl
@[simp] theorem judgeSome_choices (s : State) : (judgeSome s).choices = s.choices := rfl
@[simp] theorem judgeSome_pending (s : State) : (judgeSome s).pending = s.pending := rfl

@[simp] theorem judgeSome_start (s : State) : (judgeSome s).inputs.start = s.inputs.start := rfl

@[simp] theorem receiveSome_pins (s : State) : (receiveSome s).pins = s.pins := rfl
@[simp] theorem receiveSome_held (s : State) : (receiveSome s).held = s.held := rfl
@[simp] theorem receiveSome_time (s : State) : (receiveSome s).time = s.time := rfl
@[simp] theorem receiveSome_inputs (s : State) : (receiveSome s).inputs = s.inputs := rfl
@[simp] theorem receiveSome_engine (s : State) : (receiveSome s).engine = s.engine := rfl
@[simp] theorem receiveSome_store (s : State) : (receiveSome s).store = s.store := rfl
@[simp] theorem receiveSome_queue (s : State) : (receiveSome s).queue = s.queue := rfl
@[simp] theorem receiveSome_link (s : State) : (receiveSome s).link = s.link := rfl
@[simp] theorem receiveSome_taking (s : State) : (receiveSome s).taking = s.taking := rfl
@[simp] theorem receiveSome_choices (s : State) : (receiveSome s).choices = s.choices := rfl
@[simp] theorem receiveSome_pending (s : State) : (receiveSome s).pending = s.pending := rfl

@[simp] theorem clearStats_pins (s : State) : (clearStats s).pins = s.pins := rfl
@[simp] theorem clearStats_held (s : State) : (clearStats s).held = s.held := rfl
@[simp] theorem clearStats_time (s : State) : (clearStats s).time = s.time := rfl
@[simp] theorem clearStats_inputs (s : State) : (clearStats s).inputs = s.inputs := rfl
@[simp] theorem clearStats_engine (s : State) : (clearStats s).engine = s.engine := rfl
@[simp] theorem clearStats_units (s : State) : (clearStats s).units = s.units := rfl
@[simp] theorem clearStats_store (s : State) : (clearStats s).store = s.store := rfl
@[simp] theorem clearStats_queue (s : State) : (clearStats s).queue = s.queue := rfl
@[simp] theorem clearStats_sampled (s : State) : (clearStats s).sampled = s.sampled := rfl
@[simp] theorem clearStats_taking (s : State) : (clearStats s).taking = s.taking := rfl
@[simp] theorem clearStats_choices (s : State) : (clearStats s).choices = s.choices := rfl
@[simp] theorem clearStats_pending (s : State) : (clearStats s).pending = s.pending := rfl

@[simp] theorem rejectedStop_pins (ch : Channel) (s : State) : (rejectedStop ch s).pins = s.pins := rfl
@[simp] theorem rejectedStop_held (ch : Channel) (s : State) : (rejectedStop ch s).held = s.held := rfl
@[simp] theorem rejectedStop_time (ch : Channel) (s : State) : (rejectedStop ch s).time = s.time := rfl
@[simp] theorem rejectedStop_inputs (ch : Channel) (s : State) : (rejectedStop ch s).inputs = s.inputs := rfl
@[simp] theorem rejectedStop_engine (ch : Channel) (s : State) : (rejectedStop ch s).engine = s.engine := rfl
@[simp] theorem rejectedStop_store (ch : Channel) (s : State) : (rejectedStop ch s).store = s.store := rfl
@[simp] theorem rejectedStop_queue (ch : Channel) (s : State) : (rejectedStop ch s).queue = s.queue := rfl
@[simp] theorem rejectedStop_link (ch : Channel) (s : State) : (rejectedStop ch s).link = s.link := rfl
@[simp] theorem rejectedStop_sampled (ch : Channel) (s : State) : (rejectedStop ch s).sampled = s.sampled := rfl
@[simp] theorem rejectedStop_taking (ch : Channel) (s : State) : (rejectedStop ch s).taking = s.taking := rfl
@[simp] theorem rejectedStop_choices (ch : Channel) (s : State) : (rejectedStop ch s).choices = s.choices := rfl
@[simp] theorem rejectedStop_pending (ch : Channel) (s : State) : (rejectedStop ch s).pending = s.pending := rfl

@[simp] theorem changeUnsampled_held (line : Line) (s : State) : (changeUnsampled line s).held = s.held := rfl
@[simp] theorem changeUnsampled_time (line : Line) (s : State) : (changeUnsampled line s).time = s.time := rfl
@[simp] theorem changeUnsampled_inputs (line : Line) (s : State) : (changeUnsampled line s).inputs = s.inputs := rfl
@[simp] theorem changeUnsampled_engine (line : Line) (s : State) : (changeUnsampled line s).engine = s.engine := rfl
@[simp] theorem changeUnsampled_units (line : Line) (s : State) : (changeUnsampled line s).units = s.units := rfl
@[simp] theorem changeUnsampled_store (line : Line) (s : State) : (changeUnsampled line s).store = s.store := rfl
@[simp] theorem changeUnsampled_queue (line : Line) (s : State) : (changeUnsampled line s).queue = s.queue := rfl
@[simp] theorem changeUnsampled_link (line : Line) (s : State) : (changeUnsampled line s).link = s.link := rfl
@[simp] theorem changeUnsampled_sampled (line : Line) (s : State) :
    (changeUnsampled line s).sampled = s.sampled := rfl
@[simp] theorem changeUnsampled_taking (line : Line) (s : State) :
    (changeUnsampled line s).taking = s.taking := rfl
@[simp] theorem changeUnsampled_choices (line : Line) (s : State) :
    (changeUnsampled line s).choices = s.choices := rfl
@[simp] theorem changeUnsampled_pending (line : Line) (s : State) :
    (changeUnsampled line s).pending = s.pending := rfl

@[simp] theorem stopClock_held (s : State) : (stopClock s).held = s.held := rfl
@[simp] theorem stopClock_time (s : State) : (stopClock s).time = s.time := rfl
@[simp] theorem stopClock_inputs (s : State) : (stopClock s).inputs = s.inputs := rfl
@[simp] theorem stopClock_engine (s : State) : (stopClock s).engine = s.engine := rfl
@[simp] theorem stopClock_units (s : State) : (stopClock s).units = s.units := rfl
@[simp] theorem stopClock_store (s : State) : (stopClock s).store = s.store := rfl
@[simp] theorem stopClock_queue (s : State) : (stopClock s).queue = s.queue := rfl
@[simp] theorem stopClock_link (s : State) : (stopClock s).link = s.link := rfl
@[simp] theorem stopClock_sampled (s : State) : (stopClock s).sampled = s.sampled := rfl
@[simp] theorem stopClock_taking (s : State) : (stopClock s).taking = s.taking := rfl
@[simp] theorem stopClock_choices (s : State) : (stopClock s).choices = s.choices := rfl
@[simp] theorem stopClock_pending (s : State) : (stopClock s).pending = s.pending := rfl

@[simp] theorem resumeClock_held (s : State) : (resumeClock s).held = s.held := rfl
@[simp] theorem resumeClock_time (s : State) : (resumeClock s).time = s.time := rfl
@[simp] theorem resumeClock_inputs (s : State) : (resumeClock s).inputs = s.inputs := rfl
@[simp] theorem resumeClock_engine (s : State) : (resumeClock s).engine = s.engine := rfl
@[simp] theorem resumeClock_units (s : State) : (resumeClock s).units = s.units := rfl
@[simp] theorem resumeClock_store (s : State) : (resumeClock s).store = s.store := rfl
@[simp] theorem resumeClock_queue (s : State) : (resumeClock s).queue = s.queue := rfl
@[simp] theorem resumeClock_link (s : State) : (resumeClock s).link = s.link := rfl
@[simp] theorem resumeClock_sampled (s : State) : (resumeClock s).sampled = s.sampled := rfl
@[simp] theorem resumeClock_taking (s : State) : (resumeClock s).taking = s.taking := rfl
@[simp] theorem resumeClock_choices (s : State) : (resumeClock s).choices = s.choices := rfl
@[simp] theorem resumeClock_pending (s : State) : (resumeClock s).pending = s.pending := rfl

@[simp] theorem resetBlocks_pins (c : Conditioner) (l : HostLink) (s : State) :
    (resetBlocks c l s).pins = s.pins := rfl
@[simp] theorem resetBlocks_held (c : Conditioner) (l : HostLink) (s : State) :
    (resetBlocks c l s).held = s.held := rfl
@[simp] theorem resetBlocks_sampled (c : Conditioner) (l : HostLink) (s : State) :
    (resetBlocks c l s).sampled = s.sampled := rfl
@[simp] theorem resetBlocks_taking (c : Conditioner) (l : HostLink) (s : State) :
    (resetBlocks c l s).taking = s.taking := rfl
@[simp] theorem resetBlocks_choices (c : Conditioner) (l : HostLink) (s : State) :
    (resetBlocks c l s).choices = s.choices := rfl
@[simp] theorem resetBlocks_pending (c : Conditioner) (l : HostLink) (s : State) :
    (resetBlocks c l s).pending = s.pending := rfl

@[simp] theorem openSession_pins (p : SessionParams) (s : State) : (openSession p s).pins = s.pins := rfl
@[simp] theorem openSession_held (p : SessionParams) (s : State) : (openSession p s).held = s.held := rfl
@[simp] theorem openSession_time (p : SessionParams) (s : State) : (openSession p s).time = s.time := rfl
@[simp] theorem openSession_inputs (p : SessionParams) (s : State) : (openSession p s).inputs = s.inputs := rfl
@[simp] theorem openSession_engine (p : SessionParams) (s : State) : (openSession p s).engine = s.engine := rfl
@[simp] theorem openSession_units (p : SessionParams) (s : State) : (openSession p s).units = s.units := rfl
@[simp] theorem openSession_store (p : SessionParams) (s : State) : (openSession p s).store = s.store := rfl
@[simp] theorem openSession_queue (p : SessionParams) (s : State) : (openSession p s).queue = s.queue := rfl
@[simp] theorem openSession_sampled (p : SessionParams) (s : State) : (openSession p s).sampled = s.sampled := rfl
@[simp] theorem openSession_taking (p : SessionParams) (s : State) : (openSession p s).taking = s.taking := rfl
@[simp] theorem openSession_choices (p : SessionParams) (s : State) : (openSession p s).choices = s.choices := rfl
@[simp] theorem openSession_pending (p : SessionParams) (s : State) : (openSession p s).pending = s.pending := rfl

@[simp] theorem giveUpHeld_pins (r : ClosedRecord) (s : State) : (giveUpHeld r s).pins = s.pins := rfl
@[simp] theorem giveUpHeld_held (r : ClosedRecord) (s : State) : (giveUpHeld r s).held = s.held := rfl
@[simp] theorem giveUpHeld_time (r : ClosedRecord) (s : State) : (giveUpHeld r s).time = s.time := rfl
@[simp] theorem giveUpHeld_inputs (r : ClosedRecord) (s : State) : (giveUpHeld r s).inputs = s.inputs := rfl
@[simp] theorem giveUpHeld_store (r : ClosedRecord) (s : State) : (giveUpHeld r s).store = s.store := rfl
@[simp] theorem giveUpHeld_sampled (r : ClosedRecord) (s : State) : (giveUpHeld r s).sampled = s.sampled := rfl
@[simp] theorem giveUpHeld_taking (r : ClosedRecord) (s : State) : (giveUpHeld r s).taking = s.taking := rfl
@[simp] theorem giveUpHeld_choices (r : ClosedRecord) (s : State) : (giveUpHeld r s).choices = s.choices := rfl
@[simp] theorem giveUpHeld_pending (r : ClosedRecord) (s : State) : (giveUpHeld r s).pending = s.pending := rfl

@[simp] theorem applyIdle_pins (k : Fin 4) (rev : BitVec 16) (p : Profile) (s : State) :
    (applyIdle k rev p s).pins = s.pins := rfl
@[simp] theorem applyIdle_held (k : Fin 4) (rev : BitVec 16) (p : Profile) (s : State) :
    (applyIdle k rev p s).held = s.held := rfl
@[simp] theorem applyIdle_time (k : Fin 4) (rev : BitVec 16) (p : Profile) (s : State) :
    (applyIdle k rev p s).time = s.time := rfl
@[simp] theorem applyIdle_units (k : Fin 4) (rev : BitVec 16) (p : Profile) (s : State) :
    (applyIdle k rev p s).units = s.units := rfl
@[simp] theorem applyIdle_queue (k : Fin 4) (rev : BitVec 16) (p : Profile) (s : State) :
    (applyIdle k rev p s).queue = s.queue := rfl
@[simp] theorem applyIdle_sampled (k : Fin 4) (rev : BitVec 16) (p : Profile) (s : State) :
    (applyIdle k rev p s).sampled = s.sampled := rfl
@[simp] theorem applyIdle_taking (k : Fin 4) (rev : BitVec 16) (p : Profile) (s : State) :
    (applyIdle k rev p s).taking = s.taking := rfl
@[simp] theorem applyIdle_choices (k : Fin 4) (rev : BitVec 16) (p : Profile) (s : State) :
    (applyIdle k rev p s).choices = s.choices := rfl
@[simp] theorem applyIdle_pending (k : Fin 4) (rev : BitVec 16) (p : Profile) (s : State) :
    (applyIdle k rev p s).pending = s.pending := rfl

@[simp] theorem advance_pins (s : State) : (advance s).pins = s.pins := rfl
@[simp] theorem advance_held (s : State) : (advance s).held = s.held := rfl
@[simp] theorem advance_units (s : State) : (advance s).units = s.units := rfl
@[simp] theorem advance_store (s : State) : (advance s).store = s.store := rfl
@[simp] theorem advance_queue (s : State) : (advance s).queue = s.queue := rfl
@[simp] theorem advance_pending (s : State) : (advance s).pending = s.pending := rfl

/-! ### What each update writes -/

@[simp] theorem advance_taking (s : State) : (advance s).taking = Config.transitionTaking s.choices := rfl
@[simp] theorem advance_choices (s : State) : (advance s).choices = s.choices + 1 := rfl
@[simp] theorem State.post_link (e : Event) (s : State) : (s.post e).link = postEvent s.now e s.link := rfl
@[simp] theorem popIntake_link (s : State) : (popIntake s).link = { s.link with intake := s.link.intake.tail } := rfl
@[simp] theorem forgetCopy_link (r : Request) (s : State) :
    (forgetCopy r s).link = { s.link with copies := s.link.copies.filter fun e => !e.answers r } := rfl
@[simp] theorem beginRun_engine (s : State) : (beginRun s).engine =
    { s.engine with
      runNumber := wrapToOne s.engine.runNumber, cyclesDone := 0, stopRequest := false, endReason := none } := rfl
@[simp] theorem leaveRun_engine (reason : RunEndReason) (s : State) : (leaveRun reason s).engine =
    { s.engine with state := .idle, stopRequest := false, holdoffTimer := none, endReason := some reason } := rfl
@[simp] theorem leaveRun_units (reason : RunEndReason) (s : State) :
    (leaveRun reason s).units = Twelve.all ChannelUnit.offUnit := rfl
@[simp] theorem passAll_link (events : List Event) (s : State) :
    (passAll events s).link = events.foldl (fun l e => postEvent s.now e l) s.link := rfl
@[simp] theorem endRun_engine (reason : RunEndReason) (s : State) : (endRun reason s).engine =
    { s.engine with state := .idle, stopRequest := false, holdoffTimer := none, endReason := some reason } := rfl
@[simp] theorem endRun_units (reason : RunEndReason) (s : State) :
    (endRun reason s).units = Twelve.all ChannelUnit.offUnit := rfl
@[simp] theorem endRun_link (reason : RunEndReason) (s : State) : (endRun reason s).link =
    postEvent s.now (.runEnd s.engine.runNumber reason s.engine.cyclesDone) s.link := rfl
@[simp] theorem loadProfile_engine (k : Fin 4) (rev : BitVec 16) (p : Profile) (s : State) :
    (loadProfile k rev p s).engine = { s.engine with active := some ⟨k, rev, p⟩ } := rfl
@[simp] theorem loadProfile_inputs (k : Fin 4) (rev : BitVec 16) (p : Profile) (s : State) :
    (loadProfile k rev p s).inputs = recondition p s.inputs := rfl
@[simp] theorem loadProfile_store (k : Fin 4) (rev : BitVec 16) (p : Profile) (s : State) :
    (loadProfile k rev p s).store = { s.store with selected := none } := rfl
@[simp] theorem takeStart_units (src : StartTaken) (s : State) :
    (takeStart src s).units = startUnits s.profile s.units := rfl
@[simp] theorem takeRestart_units (src : StartTaken) (s : State) :
    (takeRestart src s).units = restartUnits s.profile s.units := rfl
@[simp] theorem openCycle_engine (src : StartTaken) (s : State) : (openCycle src s).engine =
    { s.engine with
      state := .measuring
      cycleCounter := s.engine.cycleCounter + 1
      cycle := some (latchCycle src s)
      overlaps := 0 } := rfl
@[simp] theorem takeStart_engine (src : StartTaken) (s : State) :
    (takeStart src s).engine = (openCycle src s).engine := rfl
@[simp] theorem takeRestart_engine (src : StartTaken) (s : State) :
    (takeRestart src s).engine = (openCycle src s).engine := rfl
@[simp] theorem stopCycle_engine (oc : OpenCycle) (s : State) :
    (stopCycle oc s).engine = { s.engine with cycle := none, missed := 0 } := rfl
@[simp] theorem stopCycle_units (oc : OpenCycle) (s : State) :
    (stopCycle oc s).units = mapUnits oc.channelSet closeUnit s.units := rfl
@[simp] theorem setSlot_store (k : Fin 4) (v : Slot) (s : State) :
    (setSlot k v s).store = { s.store with slots := s.store.slots.set k v } := rfl
@[simp] theorem selectSlot_store (k : Option (Fin 4)) (s : State) :
    (selectSlot k s).store = { s.store with selected := k } := rfl
@[simp] theorem requestStop_engine (s : State) : (requestStop s).engine = { s.engine with stopRequest := true } := rfl
@[simp] theorem armEngine_engine (s : State) :
    (armEngine s).engine = { s.engine with state := .armed, holdoffTimer := none } := rfl
@[simp] theorem armEngine_units (s : State) : (armEngine s).units = armUnits s.profile.channelSet s.units := rfl
@[simp] theorem moveLine_inputs (line : Line) (s : State) :
    (moveLine line s).inputs = s.inputs.setLine line (flipLevel (s.inputs.line line)) := rfl
@[simp] theorem moveLine_pins (line : Line) (s : State) :
    (moveLine line s).pins = s.pins.setLine line (flipLevel (s.inputs.line line)).level := rfl
@[simp] theorem moveLine_sampled (line : Line) (s : State) :
    (moveLine line s).sampled = { s.sampled with moved := s.sampled.moved ++ [line] } := rfl
@[simp] theorem judgeLine_inputs (line : Line) (s : State) : (judgeLine line s).inputs =
    s.inputs.setLine line (judgeTransition (s.inputs.line line) s.now).1 := rfl
@[simp] theorem holdEdge_inputs (line : Line) (s : State) : (holdEdge line s).inputs =
    s.inputs.setLine line (judgeTransition (s.inputs.line line) s.now).1 := rfl
@[simp] theorem holdEdge_sampled (line : Line) (s : State) : (holdEdge line s).sampled =
    { s.sampled with judged := s.sampled.judged ++ s.judges line } := rfl
@[simp] theorem advance_inputs (s : State) : (advance s).inputs = sampleLevels s.pins s.inputs := rfl
@[simp] theorem clearStats_link (s : State) : (clearStats s).link = { s.link with
    stats := LinkStats.zero, clearDue := false, transmitter := s.link.transmitter.clearBefore } := rfl

/-! ### A line of the Input Conditioner -/

@[simp] theorem Conditioner.line_setLine (c : Conditioner) (line : Line) (l : LineState) :
    (c.setLine line l).line line = l := by
  cases line <;> simp [Conditioner.line, Conditioner.setLine]

theorem Conditioner.line_setLine_ne (c : Conditioner) {line other : Line} (h : other ≠ line) (l : LineState) :
    (c.setLine line l).line other = c.line other := by
  cases line <;> cases other <;> simp_all [Conditioner.line, Conditioner.setLine]
  exact Twelve.get_set_ne _ _ h

@[simp] theorem Conditioner.setLine_setLine (c : Conditioner) (line : Line) (a b : LineState) :
    (c.setLine line a).setLine line b = c.setLine line b := by
  cases line <;> simp [Conditioner.setLine]

@[simp] theorem Conditioner.setLine_rejectedStarts (c : Conditioner) (line : Line) (l : LineState) :
    (c.setLine line l).rejectedStarts = c.rejectedStarts := by
  cases line <;> rfl

end Sys2Proof.Machine
end

