-- ==== Sys2Proof/Laws/Ops.lean ====
section
/-! SUPPORT. What each shared operation can do, said once in the terms the claims use: a transition sampled on a line,
a request taken, an event passed, a cycle closed, a record's admission, the start of a cycle and the entry of ARMED. -/

namespace Sys2Proof.Machine

/-! ### Counters -/

theorem satInc_byte (x : Byte) : satInc x = if x = 0xFF then 0xFF else x + 1 := by
  unfold satInc
  split <;> simp_all

theorem satInc_word (x : BitVec 16) : satInc x = if x = 0xFFFF then 0xFFFF else x + 1 := by
  unfold satInc
  split <;> simp_all

/-! ### Transitions (R14 to R18) -/

@[simp] theorem flipLevel_sawEdge (l : LineState) : (flipLevel l).sawEdge = l.seesEdge := by
  unfold LineState.sawEdge LineState.seesEdge flipLevel
  cases l.edge <;> simp

@[simp] theorem flipLevel_level (l : LineState) : (flipLevel l).level = !l.level := rfl

@[simp] theorem flipLevel_spaced (l : LineState) (now : Epoch) : (flipLevel l).spaced now = l.spaced now := rfl

theorem takes_iff_sawEdge (l : LineState) : (l.conditioned && l.edge.takes l.level) = l.sawEdge := by
  unfold LineState.sawEdge EdgeSelection.takes
  cases l.edge <;> rfl

/-- The spacing filter accepts exactly the edges that lie at least the spacing after the last accepted one. -/
theorem spacingJudges_eq (l : LineState) (now : Epoch) :
    spacingJudges l now = if l.spaced now = true then .qualified else .rejected := by
  unfold spacingJudges LineState.spaced epochDistance
  cases l.filter with
  | none => rfl
  | some e =>
    simp only [decide_eq_true_eq]
    by_cases h : (now - e).toNat < l.spacing.toNat
    · rw [if_pos h, if_neg (by omega)]
    · rw [if_neg h, if_pos (by omega)]

/-- A line after its transition is judged. -/
theorem judgeTransition_line (l : LineState) (now : Epoch) : (judgeTransition l now).1 = judgedLine now l := by
  unfold judgeTransition judgedLine
  rw [takes_iff_sawEdge, spacingJudges_eq]
  cases l.sawEdge <;> cases l.spaced now <;> rfl

/-- The event that judging a transition makes. -/
theorem heldEdges_judgeTransition (line : Line) (l : LineState) (now : Epoch) :
    heldEdges line l.level (judgeTransition l now).2 = edgeOf line now l := by
  unfold judgeTransition edgeOf
  rw [takes_iff_sawEdge, spacingJudges_eq]
  cases l.sawEdge <;> cases l.spaced now <;> rfl

/-- The event made of a line's transition. -/
theorem judges_eq (s : State) (line : Line) : s.judges line = edgeOf line s.now (s.inputs.line line) :=
  heldEdges_judgeTransition line (s.inputs.line line) s.now

/-- A transition that is no edge changes the level only. -/
theorem takeTransition_dropped {s : State} {line : Line} (hl : s.live = true) (hm : line ∉ s.sampled.moved)
    (ht : s.taking = .whole) (h : (s.inputs.line line).seesEdge = false) : takeTransition line s = moveLine line s := by
  simp [takeTransition, hl, hm, ht, passEdge, judges_eq, edgeOf, h, judgeLine,
    judgeTransition_line, judgedLine, moveLine]

/-- An edge is judged and reaches its receiver, accepted when it is spaced. -/
theorem takeTransition_edge {s : State} {line : Line} (hl : s.live = true) (hm : line ∉ s.sampled.moved)
    (ht : s.taking = .whole) (h : (s.inputs.line line).seesEdge = true) :
    takeTransition line s
      = deliverEdge ⟨line, !(s.inputs.line line).level, (s.inputs.line line).spaced s.now⟩ (judgeLine line (moveLine line s)) := by
  have hn : (moveLine line s).now = s.now := rfl
  simp [takeTransition, hl, hm, ht, passEdge, judges_eq, edgeOf, h, hn]

/-- A line after an edge on it has been sampled and judged. -/
theorem judgeLine_moveLine {s : State} {line : Line} (h : (s.inputs.line line).seesEdge = true) :
    judgeLine line (moveLine line s)
      = { moveLine line s with inputs := s.inputs.setLine line { s.inputs.line line with
          level := !(s.inputs.line line).level
          filter := if (s.inputs.line line).spaced s.now = true then some s.now else (s.inputs.line line).filter } } := by
  have hn : (moveLine line s).now = s.now := rfl
  unfold judgeLine
  rw [judgeTransition_line]
  simp only [moveLine_inputs, Conditioner.line_setLine, Conditioner.setLine_setLine, judgedLine, flipLevel_sawEdge, h,
    flipLevel_spaced, hn]
  cases (s.inputs.line line).spaced s.now <;> rfl

/-- An edge that reaches a unit. -/
theorem unitEdge_eq_edgeAt (accepted : Bool) (time : Ticks) (u : ChannelUnit) :
    unitEdge accepted time u = edgeAt accepted time u := by
  unfold unitEdge edgeAt
  cases accepted
  · simp only [Bool.false_eq_true, if_false]
    unfold rejectedEdge
    cases h : u.state <;> simp
  · simp only [if_true]
    unfold qualifiedEdge
    cases h : u.state <;> simp [countEdge, countedUnit]
    rfl

/-! ### The active profile -/

theorem profile_of_active {s : State} {a : ActiveProfile} (h : s.engine.active = some a) : s.profile = a.profile := by
  simp [State.profile, Engine.governing, h]

theorem governing_of_active {e : Engine} {a : ActiveProfile} (h : e.active = some a) : e.governing = a := by
  simp [Engine.governing, h]

theorem accepts_external_iff (src : StartSource) :
    src.accepts .external = true ↔ src = .external ∨ src = .either := by
  cases src <;> simp [StartSource.accepts]

theorem accepts_host_iff (src : StartSource) : src.accepts .host = true ↔ src = .host ∨ src = .either := by
  cases src <;> simp [StartSource.accepts]

/-! ### Requests (R147, R148, R150) -/

@[simp] theorem Reply.answers_iff (e : Reply) (r : Request) : e.answers r = true ↔ e.seq = r.seq ∧ e.code = r.code := by
  simp [Reply.answers]

theorem cached_eq_none {l : HostLink} {r : Request} (h : l.noReplyFor r) : l.cached r = none := by
  simpa [HostLink.cached] using h.1

theorem foundAtArrival_eq_none {l : HostLink} {r : Request} (h : l.noReplyFor r) : l.foundAtArrival r = none := by
  simpa [HostLink.foundAtArrival] using h.2

theorem canTake_of_takes {s : State} {r : Request} {rest : List Request} (h : s.takes r rest) : s.canTake = true := by
  obtain ⟨hc, hh, -, hl, hr⟩ := h
  simp [State.canTake, State.live, hc, hh, hr, Config.replyCapacity, hl]

/-- A request that finds its reply in the cache is answered with it. -/
theorem takeRequest_cached {s : State} {r : Request} {rest : List Request} {e : Reply} {mine : Byte → Bool}
    {carryOut : Request → State → State} (h : s.takes r rest) (hm : mine r.code = true) (hc : s.link.cached r = some e) :
    takeRequest mine carryOut s = answerFromCache e (popIntake (forgetCopy r s)) := by
  simp [takeRequest, h.2.2.1, canTake_of_takes h, hm, hc]

/-- A request that finds no reply, and found none at its hand-on, is dealt with as a new one. -/
theorem takeRequest_unanswered {s : State} {r : Request} {rest : List Request} {mine : Byte → Bool}
    {carryOut : Request → State → State} (h : s.takes r rest) (hm : mine r.code = true) (hc : s.link.cached r = none)
    (hf : s.link.foundAtArrival r = none) : takeRequest mine carryOut s = dealWith carryOut r s := by
  simp [takeRequest, h.2.2.1, canTake_of_takes h, hm, hc, hf]

/-- A request that found its reply in the cache at its hand-on, and finds it displaced, is answered with it. -/
theorem takeRequest_foundAtArrival {s : State} {r : Request} {rest : List Request} {e : Reply} {mine : Byte → Bool}
    {carryOut : Request → State → State} (h : s.takes r rest) (hm : mine r.code = true) (hc : s.link.cached r = none)
    (hf : s.link.foundAtArrival r = some e) :
    takeRequest mine carryOut s = answerFromCache e (popIntake (forgetCopy r s)) := by
  simp [takeRequest, h.2.2.1, canTake_of_takes h, hm, hc, hf]

/-- A request that is carried out is carried out on the state with the intake queue's head removed. -/
theorem takeRequest_carriesOut {s : State} {r : Request} {rest : List Request} {mine : Byte → Bool}
    {carryOut : Request → State → State} (h : s.carriesOut r rest) (hm : mine r.code = true) :
    takeRequest mine carryOut s = carryOut r (popIntake s) := by
  obtain ⟨ht, hc, hk⟩ := h
  rw [takeRequest_unanswered ht hm (cached_eq_none hc) (foundAtArrival_eq_none hc), dealWith, hk]

/-- Completing a request that was taken answers it. -/
theorem completeWith_popIntake {s : State} {r : Request} {rest : List Request} (h : s.link.intake = r :: rest)
    (a : Answer) : completeWith r a (popIntake s) = s.answeredWith r rest a.status a.detail a.body := by
  simp [completeWith, popIntake, completeReply, queueReply, State.answeredWith, Answer.reply, h, keepLast,
    Config.cacheCapacity]

/-- A carried-out request whose effect leaves the intake queue alone: the effect, and the answer. -/
theorem takeRequest_answers {s t : State} {r : Request} {rest : List Request} {code : Byte}
    {f : Request → State → State × Answer} {a : Answer} (h : s.carriesOut r rest) (hc : r.code = code)
    (hf : f r (popIntake s) = (popIntake t, a)) (hi : t.link.intake = s.link.intake) :
    takeRequest (codeIs code) (answered f) s = t.answeredWith r rest a.status a.detail a.body := by
  rw [takeRequest_carriesOut h (by simp [codeIs, hc]), answered, hf]
  exact completeWith_popIntake (hi.trans h.1.2.2.1) a

/-! ### Events (R161, R162) -/

/-- An event passed to the Host Link neither reads nor writes the intake queue. -/
theorem postEvent_intake (stamp : Epoch) (e : Event) (l : HostLink) (q : List Request) :
    postEvent stamp e { l with intake := q } = { postEvent stamp e l with intake := q } := by
  simp only [postEvent]
  cases l.session.params <;> simp only
  split
  · simp only [appendEvent, makeEventRoom]
    cases h : l.events with
    | nil => simp [h]
    | cons oldest rest =>
      simp only
      split
      · rfl
      · simp [h]
  · rfl

@[simp] theorem postEvent_keeps_intake (stamp : Epoch) (e : Event) (l : HostLink) :
    (postEvent stamp e l).intake = l.intake :=
  (congrArg HostLink.intake (postEvent_intake stamp e l l.intake) :)

/-- Passing an event and taking a request do not disturb one another. -/
theorem post_popIntake (e : Event) (s : State) : (popIntake s).post e = popIntake (s.post e) := by
  simp only [State.post, popIntake, State.now, postEvent_intake, postEvent_keeps_intake]

/-- Events passed in order leave the intake queue alone. -/
theorem postAll_intake (stamp : Epoch) (events : List Event) (l : HostLink) (q : List Request) :
    events.foldl (fun l e => postEvent stamp e l) { l with intake := q }
      = { events.foldl (fun l e => postEvent stamp e l) l with intake := q } := by
  induction events generalizing l with
  | nil => rfl
  | cons e rest ih => simp only [List.foldl_cons, postEvent_intake, ih]

@[simp] theorem postAll_keeps_intake (stamp : Epoch) (events : List Event) (l : HostLink) :
    (events.foldl (fun l e => postEvent stamp e l) l).intake = l.intake :=
  (congrArg HostLink.intake (postAll_intake stamp events l l.intake) :)

theorem passAll_popIntake (events : List Event) (s : State) :
    passAll events (popIntake s) = popIntake (passAll events s) := by
  simp only [passAll, popIntake, State.now, postAll_intake, postAll_keeps_intake]

/-- An event of another block enters somewhere among the events of a sequence, which keep their order (R161). -/
theorem enterAmong_eq (place : Nat) (other : Event) (events : List Event) :
    ∃ before later, events = before ++ later ∧ enterAmong place other events = before ++ other :: later := by
  cases events with
  | nil => exact ⟨[], [], rfl, rfl⟩
  | cons e rest => exact ⟨_, _, (List.take_append_drop (place % (rest.length + 2)) (e :: rest)).symm, rfl⟩

/-! ### Units (R58, R61, R63, R69 to R71) -/

theorem concludeUnit_eq_forcedUnit (how : UnitState) (u : ChannelUnit) : concludeUnit how u = forcedUnit how u := by
  unfold concludeUnit forcedUnit
  cases u.state <;> simp

theorem closeUnit_eq_shutUnit (u : ChannelUnit) : closeUnit u = shutUnit u := rfl

theorem all_offUnit : Twelve.all ChannelUnit.offUnit = allOff := rfl

/-! ### Starts, conditioning and arming -/

/-- A start taken in ARMED begins a cycle with the early counts gathered. -/
theorem takeStart_beginsCycle {src : StartTaken} {a : ActiveProfile} {s : State} (h : s.engine.active = some a) :
    beginsCycle src a (fun i => (s.units.get i).early) s (takeStart src s) := by
  refine ⟨rfl, rfl, rfl, ?_, rfl, fun i => ?_, fun i hi => ?_, fun i hi => ?_⟩
  · simp [takeStart, openCycle, latchCycle, profile_of_active h, governing_of_active h, satInc_word, State.now]
  · simp [takeStart, openCycle, clearFilter]
  · simp [takeStart, profile_of_active h, hi]
  · simp [takeStart, profile_of_active h, hi, startUnit]

/-- A restarting start begins a cycle with no early counts. -/
theorem takeRestart_beginsCycle {src : StartTaken} {a : ActiveProfile} {s : State} (h : s.engine.active = some a) :
    beginsCycle src a (fun _ => 0) s (takeRestart src s) := by
  refine ⟨rfl, rfl, rfl, ?_, rfl, fun i => ?_, fun i hi => ?_, fun i hi => ?_⟩
  · simp [takeRestart, openCycle, latchCycle, profile_of_active h, governing_of_active h, satInc_word, State.now]
  · simp [takeRestart, openCycle, clearFilter]
  · simp [takeRestart, profile_of_active h, hi]
  · simp [takeRestart, profile_of_active h, hi, restartUnit, startUnit]

/-- Stop edges taken inside the entry of ARMED. -/
theorem edgesWithin_edgesTaken (s : State) : edgesTaken s (edgesWithin s) := by
  by_cases hw : s.sampled.stopsWait = true
  · refine ⟨s.judgesNow, inSet (Config.edgesReceived s.choices), _, fun i hi => ?_, fun i => ?_, rfl, fun i => ?_, ?_,
      fun hu hj => ?_⟩
    · simp only [State.judgesNow, Bool.and_eq_true, decide_eq_true_eq] at hi
      exact hi.1
    · simp only [edgesWithin, hw, if_true, receiveSome_inputs, judgeSome, Twelve.get_ofFn, judgeTransition_line]
    · simp only [edgesWithin, hw, if_true, receiveSome, judgeSome, Twelve.get_ofFn, unitEdge_eq_edgeAt,
        Sampling.unitEdges, heldEdges_judgeTransition]
    · simp only [edgesWithin, hw, if_true, receiveSome, judgeSome, heldEdges_judgeTransition]
    · exfalso
      simp only [Sampling.stopsWait, List.any_eq_true, Bool.or_eq_true, decide_eq_true_eq, Bool.not_eq_true',
        List.isEmpty_eq_false_iff, Sampling.unitEdges, ne_eq, List.filter_eq_nil_iff] at hw
      obtain ⟨i, -, h | h⟩ := hw
      · exact hu i h
      · exact h fun e he => by simp [hj e he]
  · have he : edgesWithin s = s := if_neg hw
    rw [he]
    refine ⟨fun _ => false, fun _ => false, s.sampled.judged, fun i hi => Bool.noConfusion hi, fun i => ?_, ?_, fun i => ?_, ?_,
      fun _ _ => rfl⟩ <;> simp
    have hf : channels.any (fun _ => false) = false := by decide
    simp [hf]

@[simp] theorem edgesWithin_engine (s : State) : (edgesWithin s).engine = s.engine := by
  unfold edgesWithin
  split <;> rfl

@[simp] theorem edgesWithin_profile (s : State) : (edgesWithin s).profile = s.profile := by
  simp [State.profile]

@[simp] theorem edgesWithin_link (s : State) : (edgesWithin s).link = s.link := by
  unfold edgesWithin
  split <;> rfl

/-- The priming of the units at the entry of ARMED. -/
theorem armEngine_primesUnits {set : ChannelSet} {s : State} (h : s.profile.channelSet = set) :
    primesUnits set s (armEngine s) :=
  ⟨fun i => by simp [h, primeUnit], rfl⟩

/-- The entry of ARMED. -/
theorem enterArmed_entersArmed {a : ActiveProfile} {s : State} (h : s.engine.active = some a) :
    entersArmed a s (enterArmed s) := by
  have hp := profile_of_active h
  refine ⟨edgesWithin s, armEngine (edgesWithin s), edgesWithin_edgesTaken s, armEngine_primesUnits (by simp [hp]),
    fun hs => ?_, fun hs => ?_⟩
  · simp [enterArmed, hp, hs]
  · refine ⟨edgesWithin (armEngine (edgesWithin s)), edgesWithin_edgesTaken _, ?_⟩
    simp only [enterArmed, hp, hs, if_true]
    exact ⟨takeStart_beginsCycle (by simpa using h), rfl⟩

/-- The lines after a profile is loaded. -/
theorem recondition_linesUnder (p : Profile) (c : Conditioner) : linesUnder p c (recondition p c) :=
  ⟨rfl, fun i => by simp [conditionLine, conditionedAs]⟩

/-! ### Closing and admission (R42 to R45, R116 to R118) -/

theorem fits_iff_hasRoom (q : ResultQueue) (r : ClosedRecord) :
    q.fits r = true ↔ q.hasRoom r.cost r.record.number := by
  unfold ResultQueue.fits ResultQueue.hasRoom ResultQueue.holds
  simp only [Bool.and_eq_true, decide_eq_true_eq, and_assoc, Bool.not_eq_true', List.any_eq_false]
  exact Iff.rfl

theorem admitRecord_eq_plus (r : ClosedRecord) (q : ResultQueue) :
    admitRecord r q = q.plus r.record r.cost r.created := rfl

theorem countLoss_eq_minus (q : ResultQueue) : countLoss q = q.minus := by
  simp [countLoss, ResultQueue.minus, satInc_word]

@[simp] theorem edgesWithin_epoch (s : State) : (edgesWithin s).time.epoch = s.time.epoch := by
  unfold edgesWithin
  split <;> rfl

@[simp] theorem enterArmed_link (s : State) : (enterArmed s).link = s.link := by
  unfold enterArmed
  simp only
  split <;> simp

@[simp] theorem enterArmed_epoch (s : State) : (enterArmed s).time.epoch = s.time.epoch := by
  unfold enterArmed
  simp only
  split <;> simp [takeStart, openCycle, armEngine]

/-- Entering ARMED and what stands in the Host Link do not disturb one another. -/
theorem edgesWithin_setLink (s : State) (l : HostLink) :
    edgesWithin { s with link := l } = { edgesWithin s with link := l } := by
  by_cases h : s.sampled.stopsWait = true <;> simp only [edgesWithin, h, if_true] <;> rfl

theorem enterArmed_setLink (s : State) (l : HostLink) :
    enterArmed { s with link := l } = { enterArmed s with link := l } := by
  have ha : armEngine { edgesWithin s with link := l } = { armEngine (edgesWithin s) with link := l } := rfl
  have hp : State.profile { s with link := l } = s.profile := rfl
  by_cases h : s.profile.startSource = .immediate
  · simp only [enterArmed, hp, h, if_true, edgesWithin_setLink, ha]
    rfl
  · simp only [enterArmed, hp, h, if_false, edgesWithin_setLink, ha]

/-- An arming boundary with no selection pending: ARMED is entered. -/
theorem armingBoundary_entersArmed {a : ActiveProfile} {s : State} (ha : s.engine.active = some a)
    (h : s.store.selected = none) : entersArmed a s (armingBoundary s) := by
  simp only [armingBoundary, boundarySequence, State.pendingProfile, h]
  exact enterArmed_entersArmed ha

/-- An arming boundary at which a pending selection supersedes the run. -/
theorem armingBoundary_supersedes {k : Fin 4} {rev : BitVec 16} {p : Profile} {s : State}
    (hs : s.store.selected = some k) (hk : s.store.slots.get k = .ready rev p) :
    supersedes k rev p s (armingBoundary s) := by
  have hn : wrapToOne s.engine.runNumber = nextRun s.engine := by simp [wrapToOne, nextRun]
  refine ⟨recondition p s.inputs, recondition_linesUnder _ _, rfl, ?_⟩
  have hq : armingBoundary s = enterArmed { beginRun (loadProfile k rev p s) with
      link := postEvent s.now (.profileTaken k rev (nextRun s.engine))
        (postEvent s.now (.runEnd s.engine.runNumber .superseded s.engine.cyclesDone) s.link) } := by
    rw [enterArmed_setLink]
    simp only [armingBoundary, boundarySequence, State.pendingProfile, hs, hk, EngineSequence.run, passAll, State.now,
      enterArmed_link, enterArmed_epoch, List.foldl_cons, List.foldl_nil, runEndEvent, ← hn]
    rfl
  rw [hq]
  simp only [← hn]
  exact enterArmed_entersArmed rfl

/-- A sequence leaves the Host Link to the events it passes, and the epoch as it stands. -/
@[simp] theorem boundarySequence_link (s : State) : (boundarySequence s).state.link = s.link := by
  unfold boundarySequence
  split <;> simp

@[simp] theorem boundarySequence_epoch (s : State) : (boundarySequence s).state.time.epoch = s.time.epoch := by
  unfold boundarySequence
  split <;> simp

@[simp] theorem afterCloseSequence_link (outcome : CycleOutcome) (restart : Option StartTaken) (s : State) :
    (afterCloseSequence outcome restart s).state.link = s.link := by
  unfold afterCloseSequence
  simp only
  repeat' split
  all_goals first | rfl | simp

@[simp] theorem afterCloseSequence_epoch (outcome : CycleOutcome) (restart : Option StartTaken) (s : State) :
    (afterCloseSequence outcome restart s).state.time.epoch = s.time.epoch := by
  unfold afterCloseSequence
  simp only
  repeat' split
  all_goals first | rfl | simp

/-- An admission request has the three answers of the Result Queue. -/
theorem requestAdmission_answers {a : ActiveProfile} {s : State} (h : s.engine.active = some a) (r : ClosedRecord)
    (restart : Option StartTaken) : admissionAnswers r restart a.profile.full s (requestAdmission r restart s) := by
  have hp := profile_of_active h
  refine ⟨fun hr => ?_, fun hr hf => ?_, fun hr hf => ?_⟩
  · rw [requestAdmission, if_pos ((fits_iff_hasRoom _ _).2 hr)]
    rfl
  · rw [requestAdmission, if_neg fun hh => hr ((fits_iff_hasRoom _ _).1 hh), hp, hf]
    cases restart <;> rfl
  · rw [requestAdmission, if_neg fun hh => hr ((fits_iff_hasRoom _ _).1 hh), hp, hf]
    simp only [discardRecord, countLoss_eq_minus]
    obtain ⟨before, later, he, hl⟩ := enterAmong_eq
      (Config.lossPlace (afterCloseSequence r.record.outcome restart { s with queue := s.queue.minus }).state.choices)
      (.loss r.record.number .full r.record.missedBefore)
      (afterCloseSequence r.record.outcome restart { s with queue := s.queue.minus }).events
    refine ⟨_, before, later, rfl, he, ?_⟩
    rw [hl]
    simp only [passAll, State.now, afterCloseSequence_link, afterCloseSequence_epoch]

/-- A closed record depends only on the units of the set, as concluded. -/
theorem buildRecord_eq {e : Ending} {oc : OpenCycle} {s : State} {unit : Channel → ChannelUnit} {o : CycleOutcome}
    (h : ∀ i, inSet oc.channelSet i = true → s.units.get i = unit i) (ho : e.outcome oc.channelSet s.units = o) :
    buildRecord e oc s
      = ⟨closedRecord o oc s.engine.overlaps s.engine.missed s.time.elapsed unit, closedCost oc unit, s.now⟩ := by
  have hm : (setMembers oc.channelSet).map (fun i => channelEntry i (s.units.get i))
      = (setMembers oc.channelSet).map fun i => channelEntry i (unit i) :=
    List.map_congr_left fun i hi => by rw [h i (by simpa using hi)]
  have hf : ((setMembers oc.channelSet).filter fun i => (s.units.get i).trace)
      = (setMembers oc.channelSet).filter fun i => (unit i).trace :=
    List.filter_congr fun i hi => by rw [h i (by simpa using hi)]
  simp only [buildRecord, closedRecord, closedCost, recordCost, ho, hm, hf, Config.traceDepth]

/-- Closing a cycle is asking the admission of its record from the closed state. -/
theorem closeCycle_eq {e : Ending} {restart : Option StartTaken} {oc : OpenCycle} {s : State}
    {after : Channel → ChannelUnit} {o : CycleOutcome} (hc : s.engine.cycle = some oc)
    (ha : ∀ i, inSet oc.channelSet i = true → e.conclude (s.units.get i) = after i)
    (ho : e.outcome oc.channelSet (mapUnits oc.channelSet e.conclude s.units) = o) :
    closeCycle e restart s
      = requestAdmission
          ⟨closedRecord o oc s.engine.overlaps s.engine.missed s.time.elapsed after, closedCost oc after, s.now⟩ restart
          (closedState oc after s) := by
  have hb := buildRecord_eq (e := e) (oc := oc) (unit := after)
    (s := { s with units := mapUnits oc.channelSet e.conclude s.units }) (fun i hi => by simp [hi, ha i hi]) ho
  have hs : stopCycle oc { s with units := mapUnits oc.channelSet e.conclude s.units } = closedState oc after s := by
    unfold stopCycle closedState
    congr 1
    refine Twelve.ext_get fun i => ?_
    by_cases hi : inSet oc.channelSet i = true <;> simp [hi]
    rw [ha i hi, closeUnit_eq_shutUnit]
  simp only [closeCycle, hc, hb, hs]
  rfl

/-- The outcome of a cycle that is not cut short (R43). -/
theorem outcome_eq {e : Ending} (he : e = .concluded ∨ e = .expired) {set : ChannelSet} {units : Twelve ChannelUnit}
    {after : Channel → ChannelUnit} (h : ∀ i, inSet set i = true → units.get i = after i) :
    e.outcome set units
      = if ∀ i ∈ channels, inSet set i = true → (after i).state = .done then .complete else .partly := by
  have hd : (allUnits set units fun u => decide (u.state = .done)) = true
      ↔ ∀ i ∈ channels, inSet set i = true → (after i).state = .done := by
    simp only [allUnits_iff, decide_eq_true_eq, mem_channels, forall_const]
    exact forall_congr' fun i => forall_congr' fun hi => by rw [h i hi]
  rcases he with rfl | rfl <;> by_cases hh : ∀ i ∈ channels, inSet set i = true → (after i).state = .done
  · rw [if_pos hh]
    exact if_pos (hd.2 hh)
  · rw [if_neg hh]
    exact if_neg fun x => hh (hd.1 x)
  · rw [if_pos hh]
    exact if_pos (hd.2 hh)
  · rw [if_neg hh]
    exact if_neg fun x => hh (hd.1 x)

/-! ### Taking a request does not disturb the engine's operations (R147) -/

theorem runEndSequence_popIntake (reason : RunEndReason) (s : State) : runEndSequence reason (popIntake s)
    = ⟨popIntake (runEndSequence reason s).state, (runEndSequence reason s).events⟩ := rfl

/-- A sequence carried out beside the taking of a request. -/
theorem EngineSequence.run_popIntake (q : EngineSequence) : EngineSequence.run ⟨popIntake q.state, q.events⟩
    = popIntake q.run := passAll_popIntake _ _

theorem endRun_popIntake (reason : RunEndReason) (s : State) :
    endRun reason (popIntake s) = popIntake (endRun reason s) := by
  rw [endRun, runEndSequence_popIntake, EngineSequence.run_popIntake]
  rfl

theorem edgesWithin_popIntake (s : State) : edgesWithin (popIntake s) = popIntake (edgesWithin s) := by
  unfold edgesWithin
  rw [apply_ite popIntake]
  rfl

theorem armEngine_popIntake (s : State) : armEngine (popIntake s) = popIntake (armEngine s) := rfl

theorem takeStart_popIntake (src : StartTaken) (s : State) :
    takeStart src (popIntake s) = popIntake (takeStart src s) := rfl

theorem enterArmed_popIntake (s : State) : enterArmed (popIntake s) = popIntake (enterArmed s) := by
  unfold enterArmed
  simp only [edgesWithin_popIntake, armEngine_popIntake, takeStart_popIntake]
  rw [apply_ite popIntake]
  rfl

theorem boundarySequence_popIntake (s : State) : boundarySequence (popIntake s)
    = ⟨popIntake (boundarySequence s).state, (boundarySequence s).events⟩ := by
  have hp : (popIntake s).pendingProfile = s.pendingProfile := rfl
  have hl : ∀ k r p, beginRun (loadProfile k r p (popIntake s)) = popIntake (beginRun (loadProfile k r p s)) :=
    fun _ _ _ => rfl
  unfold boundarySequence
  rw [hp]
  split
  · simp only [enterArmed_popIntake]
  · simp only [hl, enterArmed_popIntake]
    rfl

theorem armingBoundary_popIntake (s : State) : armingBoundary (popIntake s) = popIntake (armingBoundary s) := by
  rw [armingBoundary, boundarySequence_popIntake, EngineSequence.run_popIntake]
  rfl

theorem afterCloseSequence_popIntake (outcome : CycleOutcome) (restart : Option StartTaken) (s : State) :
    afterCloseSequence outcome restart (popIntake s)
      = ⟨popIntake (afterCloseSequence outcome restart s).state, (afterCloseSequence outcome restart s).events⟩ := by
  have hb := boundarySequence_popIntake
    { s with engine := { s.engine with cyclesDone := satInc s.engine.cyclesDone } }
  have hp : State.profile { popIntake s with engine := { s.engine with cyclesDone := satInc s.engine.cyclesDone } }
      = State.profile { s with engine := { s.engine with cyclesDone := satInc s.engine.cyclesDone } } := rfl
  unfold afterCloseSequence
  simp only [popIntake_engine, hp]
  split
  · rfl
  · split
    · rfl
    · cases restart with
      | some src => rfl
      | none =>
        simp only
        split
        · rfl
        · exact hb

theorem afterClose_popIntake (outcome : CycleOutcome) (restart : Option StartTaken) (s : State) :
    afterClose outcome restart (popIntake s) = popIntake (afterClose outcome restart s) := by
  rw [afterClose, afterCloseSequence_popIntake, EngineSequence.run_popIntake]
  rfl

theorem discardRecord_popIntake (r : ClosedRecord) (restart : Option StartTaken) (s : State) :
    discardRecord r restart (popIntake s) = popIntake (discardRecord r restart s) := by
  have h := afterCloseSequence_popIntake r.record.outcome restart { s with queue := countLoss s.queue }
  unfold discardRecord
  rw [← passAll_popIntake]
  exact congrArg (fun q : EngineSequence =>
    passAll (enterAmong (Config.lossPlace q.state.choices) (.loss r.record.number .full r.record.missedBefore) q.events)
      { q.state with choices := q.state.choices + 1 }) h

theorem requestAdmission_popIntake (r : ClosedRecord) (restart : Option StartTaken) (s : State) :
    requestAdmission r restart (popIntake s) = popIntake (requestAdmission r restart s) := by
  have hp : (popIntake s).profile = s.profile := rfl
  unfold requestAdmission
  rw [apply_ite popIntake]
  refine if_congr Iff.rfl (afterClose_popIntake _ _ { s with queue := admitRecord r s.queue }) ?_
  rw [hp]
  split
  · simp only [stallWith, post_popIntake]
    rfl
  · exact discardRecord_popIntake r restart s

@[simp] theorem armingBoundary_intake (s : State) : (armingBoundary s).link.intake = s.link.intake := by
  simp [armingBoundary, EngineSequence.run]

@[simp] theorem afterClose_intake (outcome : CycleOutcome) (restart : Option StartTaken) (s : State) :
    (afterClose outcome restart s).link.intake = s.link.intake := by
  simp [afterClose, EngineSequence.run]

@[simp] theorem requestAdmission_intake (r : ClosedRecord) (restart : Option StartTaken) (s : State) :
    (requestAdmission r restart s).link.intake = s.link.intake := by
  unfold requestAdmission
  split
  · simp
  · split
    · simp [stallWith, State.post]
    · simp [discardRecord]

end Sys2Proof.Machine
end

