-- ==== Sys2Proof/WellFormed.lean ====
section
/-! DEFINITION. When a command is one the outside can send: the one limit on an operand that its type does
not already carry. -/

namespace Sys2Proof

/-- A command is well formed when a frame it brings can exist: a payload holds at most 1,024 bytes (R134).
Every other operand is bounded by its type. -/
def Instr.wellFormed : Instr → Bool
  | .requestFrameArrival _ _ payload => payload.length ≤ Config.maxPayload
  | .pinReset => true
  | .resetNRelease _ _ => true
  | .refclkStop => true
  | .refclkResume => true
  | .startTransition => true
  | .stopTransition _ => true
  | .filterLapse _ => true
  | .blankingEnd _ => true
  | .windowExpiry => true
  | .holdoffExpiry => true
  | .framingError _ => true
  | .crcError => true
  | .misdirectedFrame => true
  | .gapTimeout => true
  | .lineBreak => true
  | .linkAck _ => true
  | .identify => true
  | .status => true
  | .sessionOpen => true
  | .sessionClose => true
  | .linkStats => true
  | .deviceReset => true
  | .profileClear => true
  | .profileSetGlobal => true
  | .profileSetChannel => true
  | .profileRead => true
  | .profileCheck => true
  | .profileSelect => true
  | .arm => true
  | .disarm => true
  | .abort => true
  | .start => true
  | .resultRead => true
  | .resultAck => true
  | .queueStatus => true
  | .unknownRequest => true
  | .frameSent => true
  | .requestReset _ _ => true
  | .reportTimeout _ => true
  | .byteReceived _ => true
  | .receiveLineHighAgain => true

end Sys2Proof
end

