-- ==== Sys2Proof/Tests/Slice0.lean ====
section
/-! SUPPORT. Our own tests: single steps with the results the manual's tables, rules and worked examples give, and for
each statement with hypotheses a state and operands that meet them. -/

section
open Sys2Proof Sys2Proof.Machine

namespace Sys2Proof.Tests

/-! ### Small states -/

/-- The next state of a command, if it has one. -/
def after (c : Instr) (s : State) : Option State :=
  match exec c s with
  | .next t => some t
  | .fault _ => none
  | .refused _ => none

/-- The channel settings of these states: quota 2, trace on. -/
def twoEdges : ChannelFields := { ChannelFields.default with quota := 2, trace := true }

/-- A profile over channels 1 and 2: EXTERNAL, IGNORE, HOLD, run length 0, holdoff 0. -/
def twoChannels : Profile :=
  { Profile.default with channelSet := 3, tickDivisor := 50, windowLimit := 100, runLength := 0, chans := Twelve.all twoEdges }

def params : SessionParams := ⟨.push, 0xF, 25⟩

/-- IDLE under an active profile from slot 0, the session OPEN in PUSH. -/
def idleWith (p : Profile) : State :=
  { State.reset with
    engine := { Engine.atReset with active := some ⟨0, 1, p⟩ }
    store := { ProfileStore.atReset with slots := ProfileStore.atReset.slots.set 0 (.ready 1 p) }
    link := { State.reset.link with session := .opened params } }

/-- Slot 0 pending. -/
def pendingWith (p : Profile) : State :=
  { idleWith p with store := { (idleWith p).store with selected := some 0 } }

def armedWith (p : Profile) : State :=
  { idleWith p with
    engine := { (idleWith p).engine with state := .armed, runNumber := 1 }
    units := armUnits p.channelSet allOff }

def measuringWith (p : Profile) : State := takeStart .external (armedWith p)

/-- A unit that concluded DONE at 4 ticks in a cycle now closed. -/
def doneUnit : ChannelUnit :=
  { ChannelUnit.offUnit with
    state := .done, quota := 2, trace := true, edgeCount := 2, firstTicks := some 3, lastTicks := some 4, traceList := [3, 4] }

/-- The record of cycle 1 of `measuringWith`, COMPLETE at 4 ticks. -/
def closedWith (p : Profile) : ClosedRecord :=
  ⟨closedRecord .complete (latchCycle .external (armedWith p)) 0 0 4 fun _ => doneUnit, ⟨2, 16⟩, 0⟩

def holdoffWith (p : Profile) (left : Nat) : State :=
  { armedWith p with
    engine := { (armedWith p).engine with
      state := .holdoff, cycleCounter := 1, cyclesDone := 1, holdoffTimer := some left }
    units := mapUnits p.channelSet (fun _ => doneUnit) allOff
    queue := { admitRecord (closedWith p) ResultQueue.atReset with totalAdmitted := 1 } }

def stalledWith (p : Profile) : State :=
  { armedWith p with
    engine := { (armedWith p).engine with state := .stalled, cycleCounter := 1, closeBuffer := some (closedWith p) }
    units := mapUnits p.channelSet (fun _ => doneUnit) allOff }

/-- A request stands at the head of the intake queue. -/
def asked (code : Byte) (payload : List Byte) (s : State) : State :=
  { s with link := { s.link with intake := [⟨7, code, payload⟩] } }

/-- The last reply made: its status, detail and payload. -/
def replied (o : Option State) : Option (Status × Byte × List Byte) :=
  o.bind fun t => t.link.replies.getLast?.map fun r => (r.reply.status, r.reply.detail, r.reply.body)

/-- The stop line of channel 3 of Table 2-3: FALLING, spacing 5,000, high, with its filter state. -/
def relayLine (filter : Option Epoch) : LineState := ⟨true, true, .falling, 5000, filter⟩

/-! ### The commands: one step each, with the manual's results -/

/-- R134: the largest payload a frame carries is 1,024 bytes. -/
theorem test_wellFormed_payload : (Instr.requestFrameArrival 0 1 (List.replicate 1024 0)).wellFormed = true
    ∧ (Instr.requestFrameArrival 0 1 (List.replicate 1025 0)).wellFormed = false := by
  have h : ∀ n, (Instr.requestFrameArrival 0 1 (List.replicate n 0)).wellFormed = decide (n ≤ 1024) := fun n => by
    rw [Instr.wellFormed, List.length_replicate]
    rfl
  rw [h, h]
  decide

/-- R136. -/
theorem test_crc_of_nine_characters :
    crcOver 0xFFFF [0x31, 0x32, 0x33, 0x34, 0x35, 0x36, 0x37, 0x38, 0x39] = 0x29B1 := by decide +kernel

/-- The table gives its rows no bits. -/
theorem test_no_word_is_a_command : decodeTableWord 8 0 = none ∧ State.reset.withFetchWord 8 0 = State.reset := by decide

/-- R156: the epoch counter is 0 and every block is at its reset values. -/
theorem test_pinReset : (after .pinReset (measuringWith twoChannels)).map (fun t => (t.engine.state, t.held, t.time.epoch))
    = some (.idle, true, 0) := by decide

/-- R131, R159: the straps are sampled at the release, and the cause is PIN. -/
theorem test_resetNRelease : ((after .pinReset State.reset).bind (after (.resetNRelease true false))).map
    (fun t => (t.held, t.link.cause, t.link.divisor)) = some (false, .pin, 54) := by decide

theorem test_refclkStop : (after .refclkStop State.reset).map (fun t => t.pins.refclk) = some false := by decide

theorem test_refclkResume :
    ((after .refclkStop State.reset).bind (after .refclkResume)).map (fun t => t.pins.refclk) = some true := by decide

/-- R32: the first start begins cycle 1. -/
theorem test_startTransition_begins : (after .startTransition (armedWith twoChannels)).map
    (fun t => (t.engine.state, t.engine.cycleCounter, (t.units.get 0).state, (t.units.get 2).state))
    = some (.measuring, 1, .counting, .off) := by decide

/-- Table 3-6, second row: a start in STALLED is missed. -/
theorem test_startTransition_missed : (after .startTransition (stalledWith twoChannels)).map
    (fun t => (t.engine.state, t.engine.missed)) = some (.stalled, 1) := by decide

/-- Table 2-3: the falling edge at 10,051,200 is rejected against 10,050,000. -/
theorem test_relay_bounce_rejected : judgeTransition (flipLevel (relayLine (some 10050000))) 10051200
    = ({ relayLine (some 10050000) with level := false }, .rejected) := by decide

/-- Table 2-3: the falling edge at 10,056,000 is accepted. -/
theorem test_relay_edge_accepted : judgeTransition (flipLevel (relayLine none)) 10056000
    = ({ relayLine none with level := false, filter := some 10056000 }, .qualified) := by decide

/-- Table 4-4: unit 5 at 370 ticks reaches its quota of 3. -/
theorem test_stop_edge_reaches_quota :
    let u := { ChannelUnit.offUnit with
      state := .counting, cycleOpen := true, quota := 3, blanking := 200, trace := true, edgeCount := 2,
      firstTicks := some 240, lastTicks := some 300, traceList := [240, 300], early := 1, blanked := 1, rejected := 2 }
    qualifiedEdge 370 u
      = { u with state := .done, edgeCount := 3, lastTicks := some 370, traceList := [240, 300, 370] } := by decide

/-- R24: the edge of a stop line goes to its own channel's unit. -/
theorem test_stopTransition_counts : (after (.stopTransition 1) (measuringWith twoChannels)).map
    (fun t => ((t.units.get 1).edgeCount, (t.units.get 0).edgeCount, (t.units.get 1).traceList))
    = some (1, 0, [0]) := by decide

/-- What the part does when it takes one of these of its own accord, if that goes on. -/
def taken (i : Internal) (s : State) : Option State :=
  match takeInternal i s with
  | .next t => some t
  | .fault _ => none
  | .refused _ => none

/-- ARMED, the stop line of channel 1 spaced 10 base periods and its last edge accepted 5 base periods ago. -/
def bouncing : State :=
  { armedWith twoChannels with
    time := { Timebase.atReset with epoch := 1000 }
    inputs := { State.reset.inputs with
      stops := State.reset.inputs.stops.set 0 { State.reset.inputs.start with spacing := 10, filter := some 995 } } }

/-- R68, R76: an edge rejected before the start of its base period is counted when it is received after it. -/
theorem test_stop_edge_judged_before_start :
    (((after (.stopTransition 0) { bouncing with taking := .judged }).bind fun t =>
        after .startTransition { t with taking := .whole }).bind (taken (.receive ⟨.stop 0, true, false⟩))).map
      (fun t => ((t.units.get 0).state, (t.units.get 0).rejected, (t.inputs.stops.get 0).filter))
    = some (.counting, 1, none) := by decide

/-- R3: a line makes one transition in a base period; R14: it keeps it while REFCLK is stopped. -/
theorem test_transition_kept_and_single :
    ((((after (.stopTransition 0) { bouncing with taking := .sampled }).bind (after .refclkStop)).bind
        (after (.stopTransition 0))).bind (after .refclkResume)).map
      (fun t => (t.sampled.unjudged, after (.stopTransition 0) t == some t))
    = some ([.stop 0], true) := by decide

/-- R17: an edge on its way to its unit carries its direction; channel 1's line rises, channel 2's falls. -/
theorem test_edge_carries_direction :
    let high := { bouncing with
      taking := .judged
      inputs := { bouncing.inputs with
        stops := bouncing.inputs.stops.set 1 { bouncing.inputs.stops.get 1 with level := true, edge := .falling, conditioned := true } } }
    ((after (.stopTransition 0) high).bind (after (.stopTransition 1))).map (fun t => t.sampled.judged)
    = some [⟨.stop 0, true, false⟩, ⟨.stop 1, false, true⟩] := by decide

/-- Table 2-3: the held epoch 10,050,000 lapses at 10,055,000, not before. -/
theorem test_filterLapse_at_spacing : lapseFilter (relayLine (some 10050000)) 10055000 = relayLine none
    ∧ lapseFilter (relayLine (some 10050000)) 10054999 = relayLine (some 10050000) := by decide

/-- R8, R62: blanking ends at the delay. -/
theorem test_blankingEnd : endBlanking 200
    { ChannelUnit.offUnit with state := .blanked, blanking := 200, blankingTimer := true }
    = { ChannelUnit.offUnit with state := .counting, blanking := 200 } := by decide

/-- R41, R43: at the window expiry the cycle closes PARTIAL with close ticks at the limit. -/
theorem test_windowExpiry : (after .windowExpiry { measuringWith twoChannels with
      time := ⟨5000, true, 0, 100, true⟩ }).map
    (fun t => t.queue.entries.map fun e => (e.record.outcome, e.record.closeTicks, e.record.entries.map ChannelEntry.outcome))
    = some [(.partly, 100, [.overrun, .overrun])] := by decide

/-- R88: the expiry of the holdoff arms. -/
theorem test_holdoffExpiry : (after .holdoffExpiry (holdoffWith twoChannels 0)).map
    (fun t => (t.engine.state, (t.units.get 0).state, (t.units.get 0).early)) = some (.armed, .primed, 0) := by decide

/-- R132: outside a frame a bad character is not counted. -/
theorem test_framingError : (after (.framingError .badClass) State.reset).map (fun t => t.link.stats.framingErrors) = some 1
    ∧ (after (.framingError .badCharacter) State.reset).map (fun t => t.link.stats.framingErrors) = some 0 := by decide

theorem test_crcError : (after .crcError State.reset).map
    (fun t => (t.link.stats.crcErrors, t.link.stats.goodFrames)) = some (1, 0) := by decide

/-- R138: a misdirected frame is good and misdirected. -/
theorem test_misdirectedFrame : (after .misdirectedFrame State.reset).map
    (fun t => (t.link.stats.misdirected, t.link.stats.goodFrames)) = some (1, 1) := by decide

theorem test_gapTimeout : (after .gapTimeout { State.reset with
      link := { State.reset.link with framer := .header [1] 0, gapTimer := some 0 } }).map
    (fun t => (t.link.framer, t.link.stats.gapTimeouts)) = some (.hunt, 1) := by decide

/-- R140: a break discards the waiting requests. -/
theorem test_lineBreak : (after .lineBreak (asked 1 [] State.reset)).map
    (fun t => (t.link.intake, t.link.receiver, t.link.stats.breaks)) = some ([], .waiting false, 1) := by decide

/-- R146: a second copy of a request in flight is dropped and counted. -/
theorem test_requestFrameArrival : (after (.requestFrameArrival 7 1 []) (asked 1 [] State.reset)).map
    (fun t => (t.link.intake.length, t.link.stats.duplicatesInFlight)) = some (1, 1) := by decide

/-- R174: a copy handed on while its reply is cached is kept with it, and forgotten when it is answered from the cache. -/
theorem test_copy_finds_its_reply :
    let cached := { State.reset with link := { State.reset.link with cache := [⟨7, 1, .ok, 0, [0x4A]⟩] } }
    (after (.requestFrameArrival 7 1 []) cached).map (fun t => t.link.copies) = some [⟨7, 1, .ok, 0, [0x4A]⟩]
      ∧ ((after (.requestFrameArrival 7 1 []) cached).bind (after .identify)).map
        (fun t => (t.link.copies, t.link.replies.map (·.reply.body))) = some ([], [[0x4A]]) := by decide

/-- R174: a copy whose entry was cached at the hand-on and is displaced when it is taken is answered with that reply. -/
theorem test_copy_displaced_while_waiting :
    (replied (after .status (let s := asked 2 [] (armedWith twoChannels);
      { s with link := { s.link with copies := [⟨7, 2, .ok, 0, [0x4A]⟩] } }))).map (·.2.2) = some [0x4A] := by decide

/-- R165. -/
theorem test_linkAck_stray : (after (.linkAck 12) State.reset).map (fun t => t.link.stats.strayAcks) = some 1 := by decide

/-- R154: part 0x4A 0x0E and the straps 00. -/
theorem test_identify : (replied (after .identify (asked 1 [] State.reset))).map
    (fun r => (r.1, r.2.2.take 2, r.2.2.length, r.2.2.getLast?)) = some (.ok, [0x4A, 0x0E], 18, some 0) := by decide

/-- Table 11-5: the STATUS payload is 24 bytes, its presence flags at offset 6. -/
theorem test_status : (replied (after .status (asked 2 [] (armedWith twoChannels)))).map
    (fun r => (r.2.2.take 3, r.2.2.getD 6 0, r.2.2.length)) = some ([1, 1, 0], 1, 24) := by decide

/-- R87, Table 11-8: after an ABORT the STATUS payload tells the reason, code 2, until the next run begins. -/
theorem test_status_tells_run_end : (((after .abort (asked 0x0F [] (armedWith twoChannels))).bind fun t =>
    replied (after .status (asked 2 [] { t with link := State.reset.link }))).map
    (fun r => (r.2.2.getD 0 9, r.2.2.getD 6 0, r.2.2.drop 24))) = some (0, 1, [2]) := by decide

/-- R151: the report timeout is 25 when omitted. -/
theorem test_sessionOpen : (after .sessionOpen (asked 3 [1, 0x0F] State.reset)).map (fun t => t.link.session)
    = some (.opened params) := by decide

theorem test_sessionClose : (after .sessionClose (asked 4 [] (idleWith twoChannels))).map
    (fun t => (t.link.session, t.link.replies.length)) = some (.closed, 1) := by decide

/-- R171: four bytes, least significant first. -/
theorem test_linkStats : (replied (after .linkStats (asked 5 [0] { State.reset with
      link := { State.reset.link with stats := { LinkStats.zero with crcErrors := 0x01020304 } } }))).map
    (fun r => (r.2.2.length, (r.2.2.drop 4).take 4)) = some (52, [4, 3, 2, 1]) := by decide

/-- R145: an event between the building of the reply and the clearing is in neither. -/
theorem test_linkStats_event_between :
    (((taken .readStats (asked 5 [1] State.reset)).bind (after .crcError)).bind (taken .clearStats)).map
      (fun t => (t.link.stats.crcErrors, (replied (some t)).map fun r => (r.2.2.drop 4).take 4))
    = some (0, some [0, 0, 0, 0]) := by decide

theorem test_deviceReset : (after .deviceReset (asked 6 [] State.reset)).map
    (fun t => (t.link.resetTaken, t.link.replies.map QueuedReply.resets)) = some (some 7, [true]) := by decide

/-- R101: the active profile keeps its copy. -/
theorem test_profileClear : (after .profileClear (asked 7 [0] (idleWith twoChannels))).map
    (fun t => (t.store.slots.get 0, t.engine.active.isSome)) = some (.empty, true) := by decide

/-- Table 6-4: channel set 1 and 2, window limit 100, tick divisor 1. -/
theorem test_profileSetGlobal : (after .profileSetGlobal (asked 8
      [2, 1, 3, 0, 0, 0, 3, 100, 0, 0, 0, 2, 1, 0, 0, 0] (idleWith twoChannels))).map (fun t => t.store.slots.get 2)
    = some (.draft 0 { Profile.default with channelSet := 3, windowLimit := 100, tickDivisor := 1 }) := by decide

/-- Table 6-4: a quota of 0 is refused with RANGE naming the quota. -/
theorem test_profileSetChannel : replied (after .profileSetChannel (asked 9 [2, 1, 0x13, 0, 0, 0, 0] (idleWith twoChannels)))
    = some (.range, 0x13, []) := by decide

/-- R111: a slot with contents is read with 102 bytes after its state, number and revision. -/
theorem test_profileRead : (replied (after .profileRead (asked 10 [0] (idleWith twoChannels)))).map
    (fun r => (r.2.2.take 4, r.2.2.length)) = some ([2, 0, 1, 0], 106) := by decide

/-- Table 6-4: quota 3, spacing 2,500, window 100 ticks of divisor 1: SPACING_AT_WINDOW at channel 2. -/
theorem test_profileCheck_fails : replied (after .profileCheck (asked 11 [2] { idleWith twoChannels with
      store := { ProfileStore.atReset with slots := ProfileStore.atReset.slots.set 2 (.draft 0
        { Profile.default with
          channelSet := 3, windowLimit := 100, tickDivisor := 1
          chans := (Twelve.all ChannelFields.default).set 1 { ChannelFields.default with quota := 3, spacing := 2500 } }) } }))
    = some (.checkFailed, 3, [2]) := by decide

/-- Table 6-4: made pending while MEASURING. -/
theorem test_profileSelect : (after .profileSelect (asked 12 [0] (measuringWith twoChannels))).map
    (fun t => (t.store.selected, t.engine.state)) = some (some 0, .measuring) := by decide

theorem test_arm : (after .arm (asked 13 [] (idleWith twoChannels))).map
    (fun t => (t.engine.state, t.engine.runNumber, (t.units.get 1).state)) = some (.armed, 1, .primed) := by decide

/-- R89. -/
theorem test_disarm : (after .disarm (asked 14 [] (measuringWith twoChannels))).map
    (fun t => (t.engine.state, t.engine.stopRequest)) = some (.measuring, true) := by decide

/-- R51, R87: the open cycle closes ABORTED, HOST, and the run ends, its reason kept until the next run begins. -/
theorem test_abort : (after .abort (asked 15 [] (measuringWith twoChannels))).map
    (fun t => (t.engine.state, t.engine.endReason, t.queue.entries.map fun e => e.record.outcome))
      = some (.idle, some .aborted, [.aborted .host]) := by decide

/-- R87: the next run's beginning ends it. -/
theorem test_arm_clears_endReason : (after .arm (asked 13 [] { idleWith twoChannels with
      engine := { (idleWith twoChannels).engine with endReason := some .complete } })).map
    (fun t => t.engine.endReason) = some none := by decide

/-- R161: a LOSS before, between or after the two events of a superseded run, which keep their order (R84). -/
theorem test_loss_enters_anywhere :
    let events := [Event.runEnd 1 .superseded 3, .profileTaken 0 1 2]
    [0, 1, 2, 3].map (fun n => (enterAmong n (.loss 9 .full 0) events).map Event.code)
      = [[0x44, 0x41, 0x42], [0x41, 0x44, 0x42], [0x41, 0x42, 0x44], [0x44, 0x41, 0x42]] := by decide

/-- Table 3-5: a START request under EXTERNAL is answered with SOURCE. -/
theorem test_start_source : replied (after .start (asked 16 [] (armedWith twoChannels))) = some (.source, 0, []) := by decide

/-- Table 3-5: START in ARMED under HOST is answered with the cycle number. -/
theorem test_start_begins : replied (after .start (asked 16 [] (armedWith { twoChannels with startSource := .host })))
    = some (.ok, 0, [1, 0, 0, 0]) := by decide

/-- Table 7-4: a first reading says that the record was not delivered before. -/
theorem test_resultRead : (replied (after .resultRead (asked 17 [] (holdoffWith twoChannels 9)))).map
    (fun r => (r.1, r.2.2.take 5)) = some (.ok, [0, 1, 0, 0, 0]) := by decide

/-- Table 7-4: an undelivered record is not released. -/
theorem test_resultAck : replied (after .resultAck (asked 18 [1, 0, 0, 0] (holdoffWith twoChannels 9)))
    = some (.undelivered, 0, [1, 0, 0, 0]) := by decide

/-- R127: 35 bytes; one record, none delivered. -/
theorem test_queueStatus : (replied (after .queueStatus (asked 19 [] (holdoffWith twoChannels 9)))).map
    (fun r => (r.2.2.length, r.2.2.take 3)) = some (35, [1, 0, 1]) := by decide

theorem test_unknownRequest : replied (after .unknownRequest (asked 0x14 [] State.reset)) = some (.unknown, 0, []) := by decide

theorem test_frameSent : (after .frameSent { State.reset with
      link := { State.reset.link with transmitter := .sending [0xC5] 0 (.reply true) } }).map
    (fun t => (t.link.transmitter, t.link.resetDue)) = some (.ended, true) := by decide

/-- R158, R159: the cause is REQUEST. -/
theorem test_requestReset : (after (.requestReset false true) { idleWith twoChannels with
      link := { State.reset.link with resetDue := true } }).map
    (fun t => (t.link.cause, t.engine.active.isSome, t.link.divisor)) = some (.request, false, 108) := by decide

/-- A held report of sequence number 12 at an attempt count, its timer run out. -/
def heldReport (attempts : Nat) : HeldReport := ⟨2, [0xC5], 12, attempts, some 0, .no⟩

/-- R167: at an attempt count of 4 the session suspends. -/
theorem test_reportTimeout : (after (.reportTimeout 2) { idleWith twoChannels with
      link := { (idleWith twoChannels).link with window := [heldReport 4] } }).map
    (fun t => (t.link.session, t.link.window.length)) = some (.suspended params, 1) := by decide

/-- R169: a LINK-ACK of the base period of the expiry removes the report before it is sent, and it is not counted. -/
theorem test_linkAck_after_expiry :
    (((after (.reportTimeout 2) { idleWith twoChannels with
        link := { (idleWith twoChannels).link with window := [heldReport 1] } }).bind (taken .choose)).bind
        (after (.linkAck 12))).map
      (fun t => (t.link.window, t.link.transmitter, t.link.stats.retransmissions)) = some ([], .idle, 0) := by decide

/-- R13, Table 1-3: at 1,843,200 bit/s a low of 540 base periods, 10.8 µs, is the shortest break. -/
theorem test_shortest_break : sampleReceiver 27 true (.held 539) = (.held 540, [.lineBreak])
    ∧ sampleReceiver 27 true (.held 538) = (.waiting true, [.framingError .badCharacter]) := by decide

/-- R137: a delimiter opens a frame; another byte is discarded. -/
theorem test_byteReceived : (after (.byteReceived 0xC5) State.reset).map (fun t => t.link.framer) = some (.header [] 0xFFFF)
    ∧ (after (.byteReceived 0xC4) State.reset).map (fun t => t.link.framer) = some .hunt := by decide

/-- Table 11-7: the stamp in six bytes, the dropped count, then direction and cycle number of a STALL. -/
theorem test_stall_report : (⟨0x0102030405, 3, .stall true 57⟩ : EventReport).payload
    = [5, 4, 3, 2, 1, 0, 3, 1, 57, 0, 0, 0] := by decide

theorem test_receiveLineHighAgain : (after .receiveLineHighAgain { State.reset with
      link := { State.reset.link with receiver := .waiting false } }).map (fun t => t.link.receiver)
    = some (.waiting true) := by decide

/-! ### Witnesses: a state and operands that meet the hypotheses of each statement -/

/-- The commands of an outcome that is a next state, as a proposition about it. -/
def goesOn (o : Host.Outcome State Fault Refusal) : Bool :=
  match o with
  | .next _ => true
  | .fault _ => false
  | .refused _ => false

/-- A measuring state at a phase and an elapsed count. -/
def measuringAt (p : Profile) (phase : BitVec 16) (elapsed : Ticks) : State :=
  { measuringWith p with time := ⟨1000, true, phase, elapsed, true⟩ }

/-- A command waits; none waits and a frame's last base period has come; the character receiver has found a byte. -/
theorem witness_StepRunsFrontCommand :
    { State.reset with pending := [.refclkStop, .crcError] }.pending = [.refclkStop, .crcError]
    ∧ (let s := { State.reset with link := { State.reset.link with transmitter := .sending [0xC5] 0 (.reply false) } }
      s.pending = [] ∧ s.live = true ∧ internals s = [.due .frameSent])
    ∧ (let s := { State.reset with sampled := { State.reset.sampled with found := [.byteReceived 0xC5] } }
      goesOn (exec (.byteReceived 0xC5)
        { s with sampled := { s.sampled with found := s.sampled.found.erase (.byteReceived 0xC5) } }) = true) := by decide

/-- Stopped; and running one short of the divisor and at it. -/
theorem witness_BasePeriodMovesTheTimers :
    (State.reset.pending = [] ∧ State.reset.live = true ∧ State.reset.pins.resetN = true ∧ internals State.reset = []
      ∧ State.reset.time.tickRunning = false)
    ∧ (∀ n ∈ [48, 49], let s := measuringAt twoChannels (BitVec.ofNat 16 n) 5
      s.pending = [] ∧ s.live = true ∧ s.pins.resetN = true ∧ internals s = [] ∧ s.time.tickRunning = true
        ∧ s.engine.cycle.isSome = true)
    ∧ (48 + 1 < twoChannels.tickDivisor.toNat ∧ twoChannels.tickDivisor.toNat ≤ 49 + 1) := by decide +kernel

/-- The transmitter's last base periods, and a frame just chosen. -/
theorem witness_BasePeriodMovesTheTransmitter :
    ∀ tx ∈ [Transmitter.ended, .sending [0xC5] 1 (.reply false), .chosen [0xC5] 2 0],
      let s := { idleWith twoChannels with link := { (idleWith twoChannels).link with transmitter := tx } }
      s.pending = [] ∧ s.live = true ∧ s.pins.resetN = true ∧ internals s = [] := by decide

/-- At 1,843,200 bit/s, the bit divisor 27: the longest glitch; the shortest bad character and the longest. -/
theorem witness_CharactersPassBitByBit : ({ State.reset.link with baud1 := true, baud0 := true } : HostLink).divisor = 27
    ∧ 13 ≤ 27 / 2 ∧ 9 * 27 + 27 / 2 < 257 ∧ 257 < 20 * 27 ∧ 539 < 20 * 27 := by decide

/-- A part at that rate with a transmitter. -/
def sendingAt (tx : Transmitter) : State :=
  { State.reset with link := { State.reset.link with baud1 := true, baud0 := true, transmitter := tx } }

/-- TXD at the first and the last base period of a start bit, of a data bit and of the last stop bit of 0xC5 0x01; and with
no frame, with one just ended and with one just chosen (R131, R133). -/
theorem witness_CharactersPassOnTxd :
    ([(0, 0, 0, false), (0, 0, 26, false), (0, 1, 0, true), (0, 2, 26, false), (0, 9, 0, true), (1, 0, 0, false),
        (1, 1, 26, true), (1, 8, 0, false), (1, 9, 26, true)].all fun (byte, bit, k, high) =>
      (sendingAt (.sending [0xC5, 0x01] (10 * 27 * 2 - 1 - ((10 * byte + bit) * 27 + k)) (.reply false))).txd == high)
    ∧ (sendingAt .idle).txd = true ∧ (sendingAt .ended).txd = true ∧ (sendingAt (.chosen [0xC5] 2 0)).txd = false := by
  decide

/-- A command and a base period that put the part in reset and that hold it there; a command and a base period that release
it. -/
theorem witness_PinResetHoldsUntilRelease :
    State.reset.pins.refclk = true
    ∧ (let s := { State.reset with pins := { State.reset.pins with resetN := false } }
      s.pending = [] ∧ s.pins.refclk = true ∧ s.pins.resetN = false ∧ s.held = false ∧ internals s = [])
    ∧ (let s := pinReset State.reset
      s.pending = [] ∧ s.pins.refclk = true ∧ s.pins.resetN = false ∧ s.held = true)
    ∧ (let s := holdReset State.reset
      s.pending = [] ∧ s.pins.refclk = true ∧ s.pins.resetN = true ∧ s.held = true) := by decide

theorem witness_RequestResetTakesEffect :
    let s := { idleWith twoChannels with link := { (idleWith twoChannels).link with resetDue := true } }
    s.live = true ∧ s.link.resetDue = true ∧ State.reset.link.resetDue = false := by decide

/-- REFCLK stopped, and RESET_N held low. -/
theorem witness_ClockStopsEverything :
    (stopClock State.reset).pins.refclk = false ∧ (stopClock State.reset).pending = []
      ∧ goesOn (exec .startTransition (stopClock State.reset)) = true
      ∧ (holdReset State.reset).held = true ∧ goesOn (exec .crcError (holdReset State.reset)) = true := by decide

/-- A START line that held an epoch a given distance ago. -/
def spacedStart (ago : Epoch) (s : State) : State :=
  { s with
    time := { s.time with epoch := 1000 }
    inputs := { s.inputs with start := { s.inputs.start with spacing := 10, filter := some (1000 - ago) } } }

/-- A falling transition under RISING; a rising one 9 base periods after the last, the spacing being 10. -/
theorem witness_UnqualifiedTransitionsMakeNoStart :
    (let s := { State.reset with inputs := { State.reset.inputs with start := { State.reset.inputs.start with level := true } } };
      s.movesWhole .start ∧ s.inputs.start.seesEdge = false)
    ∧ (let s := { State.reset with inputs := { State.reset.inputs with
        stops := State.reset.inputs.stops.set 11 { State.reset.inputs.start with level := true } } };
      s.movesWhole (.stop 11) ∧ (s.inputs.stops.get 11).seesEdge = false)
    ∧ (let s := spacedStart 9 State.reset;
      s.movesWhole .start ∧ s.inputs.start.seesEdge = true ∧ s.inputs.start.spaced s.now = false) := by decide

/-- An edge exactly the spacing after the last accepted one is qualified; the START request is at the head. -/
theorem witness_StartsInIdleAreDisregarded :
    (let s := spacedStart 10 (idleWith twoChannels);
      s.movesWhole .start ∧ s.engine.state = .idle ∧ s.inputs.start.seesEdge = true ∧ s.inputs.start.spaced s.now = true)
    ∧ (let s := asked 0x10 [] (idleWith twoChannels);
      s.carriesOut ⟨7, 0x10, []⟩ [] ∧ s.engine.state = .idle) := by decide

theorem witness_StartsOfOtherSourcesAreDisregarded :
    (∀ src ∈ [StartSource.host, .immediate], let s := armedWith { twoChannels with startSource := src }
      s.movesWhole .start ∧ s.engine.active = some ⟨0, 1, { twoChannels with startSource := src }⟩
        ∧ s.inputs.start.seesEdge = true ∧ s.inputs.start.spaced s.now = true)
    ∧ (∀ src ∈ [StartSource.external, .immediate], let s := asked 0x10 [] (armedWith { twoChannels with startSource := src })
      s.carriesOut ⟨7, 0x10, []⟩ [] ∧ s.engine.active = some ⟨0, 1, { twoChannels with startSource := src }⟩
        ∧ s.engine.state ≠ .idle) := by decide

theorem witness_StartsBeginCycles :
    (∀ src ∈ [StartSource.external, .either], let s := armedWith { twoChannels with startSource := src }
      s.movesWhole .start ∧ s.engine.state = .armed ∧ s.engine.active = some ⟨0, 1, { twoChannels with startSource := src }⟩
        ∧ s.inputs.start.seesEdge = true ∧ s.inputs.start.spaced s.now = true)
    ∧ (∀ src ∈ [StartSource.host, .either], let s := asked 0x10 [] (armedWith { twoChannels with startSource := src })
      s.carriesOut ⟨7, 0x10, []⟩ [] ∧ s.engine.state = .armed
        ∧ s.engine.active = some ⟨0, 1, { twoChannels with startSource := src }⟩) := by decide

/-- MEASURING under IGNORE, STALLED and HOLDOFF, by an edge and by a request. -/
theorem witness_StartsNotTakenAreCounted :
    let p := { twoChannels with startSource := .either }
    ∀ s ∈ [measuringWith p, stalledWith p, holdoffWith p 9],
      s.movesWhole .start ∧ s.engine.active = some ⟨0, 1, p⟩ ∧ s.inputs.start.seesEdge = true
        ∧ s.inputs.start.spaced s.now = true ∧ (asked 0x10 [] s).carriesOut ⟨7, 0x10, []⟩ []
        ∧ p.overlap = .ignore ∧ (s.engine.state = .measuring ↔ s.engine.cycle.isSome = true)
        ∧ (s.engine.state = .measuring ∨ s.engine.state = .stalled ∨ s.engine.state = .holdoff) := by decide

/-- A queue with no room: its trace pool is full. -/
def fullQueue : ResultQueue := { ResultQueue.atReset with used := ⟨0, 0, 192⟩ }

/-- Under RESTART, with room and without, by an edge and by a request. -/
theorem witness_RestartsAbortTheOpenCycle :
    let p := { twoChannels with startSource := .either, overlap := .restart }
    ∀ s ∈ [measuringWith p, { measuringWith p with queue := fullQueue }],
      s.engine.state = .measuring ∧ s.engine.cycle.isSome = true ∧ s.engine.active = some ⟨0, 1, p⟩
        ∧ p.overlap = .restart ∧ s.movesWhole .start ∧ s.inputs.start.seesEdge = true ∧ s.inputs.start.spaced s.now = true
        ∧ (asked 0x10 [] s).carriesOut ⟨7, 0x10, []⟩ [] := by decide

/-- A unit in every state, an edge at the spacing and one nearer; one short of the quota or more, and at the quota with the
other channel of the set not concluded. -/
theorem witness_StopEdgesReachTheirUnits :
    (∀ u ∈ [UnitState.off, .primed, .blanked, .done, .overrun, .aborted],
      let s := { armedWith twoChannels with
        units := allOff.set 4 { ChannelUnit.offUnit with state := u }
        time := { Timebase.atReset with epoch := 1000 }
        inputs := { State.reset.inputs with
          stops := (State.reset.inputs.stops.set 4
            { State.reset.inputs.start with spacing := 10, filter := some 990 }).set 5
            { State.reset.inputs.start with spacing := 10, filter := some 991 } } };
      s.movesWhole (.stop 4) ∧ (s.inputs.stops.get 4).seesEdge = true ∧ (s.inputs.stops.get 4).spaced s.now = true
        ∧ (s.units.get 4).state ≠ .counting
        ∧ s.movesWhole (.stop 5) ∧ (s.inputs.stops.get 5).seesEdge = true ∧ (s.inputs.stops.get 5).spaced s.now = false)
    ∧ (let s := measuringWith twoChannels;
      s.movesWhole (.stop 1) ∧ (s.inputs.stops.get 1).seesEdge = true ∧ (s.inputs.stops.get 1).spaced s.now = true
        ∧ (s.units.get 1).state = .counting ∧ (s.units.get 1).edgeCount + 1 ≠ (s.units.get 1).quota)
    ∧ (let s := measuringWith { twoChannels with chans := Twelve.all ChannelFields.default };
      s.movesWhole (.stop 1) ∧ (s.inputs.stops.get 1).seesEdge = true ∧ (s.inputs.stops.get 1).spaced s.now = true
        ∧ (s.units.get 1).state = .counting ∧ (s.units.get 1).edgeCount + 1 = (s.units.get 1).quota
        ∧ (s.engine.cycle.map fun oc => inSet oc.channelSet 0) = some true
        ∧ (s.units.get 0).state.concluded = false) := by decide

/-- A START line and a stop line that can move, and ones that have; an edge of each kind on its way. -/
theorem witness_TransitionsAreTakenInStages :
    (∀ taking ∈ [Taking.whole, .judged, .sampled], ({ bouncing with taking := taking } : State).canMove .start)
    ∧ bouncing.movesWhole (.stop 0) ∧ bouncing.sampled.unjudged = [] ∧ bouncing.sampled.judged = []
    ∧ (bouncing.inputs.line (.stop 0)).seesEdge = true
    ∧ (bouncing.live = true ∧ .start ∈ (bouncing.sampled.withMoved .start).moved)
    ∧ (bouncing.units.get 0).state ≠ .counting := by decide

/-- Channel 1 DONE, channel 2 one edge short of its quota. -/
def oneEdgeShort (s : State) : State :=
  { s with
    units := (s.units.set 0 { doneUnit with cycleOpen := true }).set 1
      { s.units.get 1 with edgeCount := 1, firstTicks := some 3, lastTicks := some 3, traceList := [3] } }

theorem witness_LastConclusionClosesCycle :
    let s := oneEdgeShort (measuringAt twoChannels 0 5)
    s.movesWhole (.stop 1) ∧ (s.inputs.stops.get 1).seesEdge = true ∧ (s.inputs.stops.get 1).spaced s.now = true
      ∧ (s.units.get 1).state = .counting ∧ (s.units.get 1).edgeCount + 1 = (s.units.get 1).quota
      ∧ s.engine.state = .measuring ∧ s.engine.cycle.isSome = true ∧ s.engine.active = some ⟨0, 1, twoChannels⟩
      ∧ inSet 3 1 = true ∧ (∀ j : Channel, j ≠ 1 → inSet 3 j = true → (s.units.get j).state = .done) := by decide

/-- At the window limit of 100, and one tick before it. -/
theorem witness_WindowExpiryClosesCycle :
    ∀ n ∈ [99, 100], let s := measuringAt twoChannels 0 (BitVec.ofNat 32 n)
      s.live = true ∧ s.engine.state = .measuring ∧ s.engine.active = some ⟨0, 1, twoChannels⟩ ∧ s.time.counting = true
        ∧ (s.engine.cycle.map fun oc => decide (oc.windowLimit.toNat ≤ s.time.elapsed.toNat)) = some (decide (n = 100)) := by decide

/-- A stop requested; a run of length 1 at its only cycle; a run that goes on, with a holdoff and without; a selection
pending. -/
theorem witness_AfterCloseGoesOnOrEnds :
    ∀ p ∈ [twoChannels, { twoChannels with runLength := 1 }, { twoChannels with runLength := 2, holdoff := 1 }],
      let s := measuringWith p
      s.engine.active = some ⟨0, 1, p⟩ ∧ s.engine.stopRequest = false ∧ s.engine.cyclesDone = 0 ∧ s.store.selected = none
        ∧ (disarm s).engine.stopRequest = true
        ∧ (let t := { s with store := (pendingWith p).store }; t.store.selected = some 0 ∧ t.store.slots.get 0 = .ready 1 p) := by
  decide

theorem witness_BlankingEndsAndFiltersLapse :
    (let s := { measuringAt twoChannels 0 5 with
        units := allOff.set 3 { ChannelUnit.offUnit with state := .blanked, blanking := 5, blankingTimer := true } };
      s.live = true ∧ (s.units.get 3).state = .blanked ∧ (s.units.get 3).blankingTimer = true
        ∧ (s.units.get 3).blanking.toNat ≤ s.time.elapsed.toNat)
    ∧ (let s := spacedStart 10 State.reset;
      s.live = true ∧ s.inputs.start.filter = some 990 ∧ s.inputs.start.spacing.toNat ≤ (s.now - 990).toNat)
    ∧ (let s := { State.reset with inputs := { State.reset.inputs with
        stops := State.reset.inputs.stops.set 11 { State.reset.inputs.start with filter := some 0 } } };
      s.live = true ∧ (s.inputs.stops.get 11).filter = some 0
        ∧ (s.inputs.stops.get 11).spacing.toNat ≤ (s.now - 0).toNat) := by decide

/-- Expired, and one base period before; no selection pending, and slot 0 pending. -/
theorem witness_HoldoffExpiryArmsOrSupersedes :
    (∀ n ∈ [0, 1], let s := holdoffWith twoChannels n
      s.live = true ∧ s.engine.state = .holdoff ∧ s.engine.active = some ⟨0, 1, twoChannels⟩ ∧ s.store.selected = none
        ∧ s.engine.holdoffTimer = some n)
    ∧ (let s := { holdoffWith twoChannels 0 with store := (pendingWith twoChannels).store };
      s.live = true ∧ s.engine.state = .holdoff ∧ s.engine.holdoffTimer = some 0 ∧ s.store.selected = some 0
        ∧ s.store.slots.get 0 = .ready 1 twoChannels) := by decide

/-- The part after reset with another framer. -/
def framing (f : Framer) : State := { State.reset with link := { State.reset.link with framer := f, gapTimer := some 0 } }

def someHeader : Header := ⟨.request, 1, 4, 9⟩

theorem witness_BadFramesAreCounted :
    ∀ s ∈ [State.reset, framing (.header [1] 0), framing (.body someHeader [] none 0)], s.canReceive = true := by decide

theorem witness_GapsAndBreaksDiscardFrames :
    (∀ s ∈ [framing (.header [1] 0), framing (.body someHeader [] none 0)], s.live = true ∧ s.link.gapTimer = some 0)
    ∧ ∀ r ∈ [Receiver.waiting true, .character 5 [], .held 9, .waiting false],
      let s := { State.reset with link := { State.reset.link with receiver := r } }
      s.live = true ∧ s.link.receiver = r := by decide

theorem witness_DelimiterOpensFrame : State.reset.canReceive = true ∧ State.reset.link.framer = .hunt := by decide

/-- The shortest payload and the longest. -/
theorem witness_GoodFramesArriveByteByByte :
    State.reset.canReceive = true ∧ State.reset.link.framer = .hunt ∧ ([] : List Byte).length ≤ 1024
      ∧ (List.replicate 1024 (0 : Byte)).length ≤ 1024 := by
  refine ⟨by decide, by decide, by decide, ?_⟩
  rw [List.length_replicate]

/-- A wrong check; the class byte 5; the lengths 1,025, and 1 in a LINK-ACK; the code 1 in a LINK-ACK. -/
theorem witness_BadFramesArriveByteByByte :
    State.reset.canReceive = true ∧ State.reset.link.framer = .hunt
      ∧ 4 < (5 : Byte).toNat ∧ 1024 < (0x01 : Byte).toNat + 256 * (0x04 : Byte).toNat
      ∧ (0x01 : Byte).toNat + 256 * (0x00 : Byte).toNat ≠ 0 ∧ (0x01 : Byte) ≠ 0
      ∧ (0x12 : Byte).toNat + 256 * (0x34 : Byte).toNat ≠ (crcOver 0xFFFF (checkedBytes .linkAck 1 0 [])).toNat
      ∧ (0x12 : Byte).toNat + 256 * (0x34 : Byte).toNat ≠ (crcOver 0xFFFF (checkedBytes .report 1 2 [])).toNat := by
  decide +kernel

/-- A copy in flight; four waiting; three waiting; and a payload one byte too long. -/
theorem witness_RequestsMeetTheIntakeQueue :
    (∀ n ∈ [1, 3, 4], let s := { State.reset with link := { State.reset.link with
        intake := (List.range n).map fun i => ⟨BitVec.ofNat 8 i, 1, []⟩ } }
      s.canReceive = true ∧ s.link.session = .closed ∧ s.link.intake.length = n ∧ s.link.resetTaken = none
        ∧ (∃ w ∈ s.link.intake, w.seq = 0 ∧ w.code = 1) ∧ ∀ w ∈ s.link.intake, w.seq ≠ 9)
    ∧ 1024 < (List.replicate 1025 (0 : Byte)).length := by
  refine ⟨by decide, ?_⟩
  rw [List.length_replicate]
  decide

/-- A suspended session with two held reports, one of them on the line. -/
def suspendedState : State :=
  { State.reset with link := { State.reset.link with
      session := .suspended params
      window := [{ heldReport 4 with timer := none }, { heldReport 4 with slot := 1, seq := 13, timer := none, due := .byTimer }]
      transmitter := .sending [0xC5] 7 (.report 2) } }

/-- With room, with a copy in flight, and with four waiting. -/
theorem witness_RequestResumesSession :
    ∀ n ∈ [1, 3, 4], let s := { suspendedState with link := { suspendedState.link with
        intake := (List.range n).map fun i => ⟨BitVec.ofNat 8 i, 1, []⟩ } }
      s.canReceive = true ∧ s.link.session = .suspended params ∧ s.link.intake.length = n ∧ s.link.resetTaken = none
        ∧ (∃ w ∈ s.link.intake, w.seq = 0 ∧ w.code = 1) ∧ ∀ w ∈ s.link.intake, w.seq ≠ 9 := by decide

theorem witness_LinkAckFreesItsSlot :
    suspendedState.canReceive = true ∧ (∃ h ∈ suspendedState.link.window, h.seq = 12)
      ∧ (∀ h ∈ suspendedState.link.window, h.seq ≠ 14)
      ∧ suspendedState.link.transmitter = .sending [0xC5] 7 (.report 2)
      ∧ (let s := { idleWith twoChannels with link := { (idleWith twoChannels).link with
          window := [heldReport 2], transmitter := .chosen [0xC5] 2 0 } };
        s.canReceive = true ∧ ∃ h ∈ s.link.window, h.slot = 2 ∧ h.seq = 12) := by decide

theorem witness_FrameEndTellsItsSource :
    ∀ src ∈ [FrameSource.reply false, .reply true, .report 2], ∀ session ∈ [Session.opened params, .suspended params, .closed],
      let s := { State.reset with link := { State.reset.link with transmitter := .sending [0xC5] 0 src, session := session } }
      s.live = true ∧ s.link.transmitter = .sending [0xC5] 0 src ∧ s.link.session = session := by decide

/-- At attempt counts 3 and 4. -/
theorem witness_ReportTimerResendsOrSuspends :
    ∀ n ∈ [3, 4], let s := { idleWith twoChannels with link := { (idleWith twoChannels).link with
        window := [heldReport n, { heldReport 1 with slot := 0, timer := none }] } }
      s.live = true ∧ s.link.session = .opened params ∧ (s.link.window.map HeldReport.slot).Nodup
        ∧ heldReport n ∈ s.link.window ∧ (heldReport n).timer = some 0 := by decide

/-- A reply waits; a report is due by its timer. -/
theorem witness_RepliesGoBeforeReports :
    (let s := { State.reset with link := { State.reset.link with replies := [⟨⟨7, 1, .ok, 0, []⟩, false⟩] } };
      s.pending = [] ∧ internals s = [.choose] ∧ s.link.replies.length = 1)
    ∧ (∀ due ∈ [Due.justTimed, .byTimer, .byResume],
      let s := { idleWith twoChannels with link := { (idleWith twoChannels).link with
        window := [{ heldReport 2 with timer := none, due := due }] } };
      s.pending = [] ∧ internals s = [.choose] ∧ s.link.replies = [] ∧ s.link.session = .opened params
        ∧ s.link.resetTaken = none ∧ s.link.window.length = 1) := by decide

/-- An event report alone in PULL; a record and an event report of the same stamp, and of the stamp before. -/
theorem witness_NewReportsGoByStamp :
    let event (stamp : Epoch) : EventReport := ⟨stamp, 0, .stall true 1⟩
    let part (mode : DeliveryMode) (stamp : Epoch) : State := { idleWith twoChannels with
      queue := { ResultQueue.atReset with entries := [⟨(closedWith twoChannels).record, false, ⟨2, 16⟩, 8⟩] }
      link := { (idleWith twoChannels).link with session := .opened { params with mode := mode }, events := [event stamp] } }
    (∀ s ∈ [part .pull 8, part .push 8, part .push 7],
      s.pending = [] ∧ internals s = [.choose] ∧ s.link.replies = [] ∧ s.link.resetTaken = none ∧ s.link.window = []
        ∧ s.link.events.length = 1 ∧ (∀ q ∈ s.queue.entries, q.delivered = false))
    ∧ State.reset.link.session = .closed ∧ suspendedState.link.session = .suspended params
    ∧ State.reset.link.replies = [] ∧ State.reset.link.window = [] ∧ State.reset.link.events = []
    ∧ (List.replicate 4 (heldReport 1)).length = 4
    ∧ ((8 : Epoch) - 8).toNat = 0 ∧ 1 ≤ ((8 : Epoch) - 7).toNat ∧ ((8 : Epoch) - 7).toNat < 2 ^ 47 := by decide

/-- CLOSED; a kind outside the notify set; 15 reports waiting and 16. -/
theorem witness_EventsBecomeReports :
    State.reset.link.session = .closed
    ∧ (2#4).getLsbD (Event.stall true 1).kindBit = false
    ∧ ∀ n ∈ [15, 16], let l := { (idleWith twoChannels).link with
        events := (List.range n).map fun _ => ⟨0, 0, .stall true 1⟩ }
      l.session = .opened params ∧ params.notify.getLsbD (Event.stall true 1).kindBit = true ∧ l.events.length = n := by decide

theorem witness_IdentifyAndStatusReplies :
    (asked 0x01 [] State.reset).carriesOut ⟨7, 0x01, []⟩ []
      ∧ (asked 0x02 [] (pendingWith twoChannels)).carriesOut ⟨7, 0x02, []⟩ []
      ∧ (pendingWith twoChannels).engine.active = some ⟨0, 1, twoChannels⟩
      ∧ (pendingWith twoChannels).store.selected = some 0
      ∧ ∀ reason ∈ [RunEndReason.complete, .disarmed, .aborted, .superseded],
        (asked 0x02 [] { State.reset with engine := { State.reset.engine with endReason := some reason } }).carriesOut
          ⟨7, 0x02, []⟩ [] := by decide

theorem witness_DeviceResetStopsTheIntake : (asked 0x06 [] State.reset).carriesOut ⟨7, 0x06, []⟩ [] := by decide

/-- Each field at its limits: mode 1, notify set 15, report timeout 1; mode 2, notify set 16, report timeout 0. -/
theorem witness_SessionsOpenAndClose :
    ∀ payload ∈ ([[1, 15, 1], [0, 0], [2, 15, 1], [1, 16, 1], [1, 15, 0]] : List (List Byte)),
      (asked 0x03 payload State.reset).carriesOut ⟨7, 0x03, payload⟩ [] := by decide

/-- The clear flags 0, 1 and 2; and a clearing due. -/
theorem witness_LinkStatsReadAndClear :
    (∀ payload ∈ ([[0], [1], [2]] : List (List Byte)), (asked 0x05 payload State.reset).carriesOut ⟨7, 0x05, payload⟩ [])
    ∧ (let s := { State.reset with link := { State.reset.link with clearDue := true } };
      s.live = true ∧ s.link.clearDue = true) := by decide

/-- Codes 0 and 0x14; payloads one byte off the lengths allowed; a bad tag and a cut field; a CLOSED session. -/
theorem witness_CommonChecksRefuse :
    (∀ r ∈ ([(0x00, []), (0x14, []), (0x01, [0]), (0x13, [0]), (0x05, []), (0x0C, [0, 0]), (0x03, [1]), (0x03, [0, 0, 1, 0]),
        (0x11, [0, 0]), (0x12, [0, 0, 0]), (0x04, []), (0x13, []), (0x08, []), (0x08, [0, 1, 0, 0, 0]),
        (0x08, [0, 0, 0, 0, 0, 0]), (0x08, [0, 0xF0, 0, 0, 0, 0]), (0x09, [0]), (0x09, [0, 1, 0x13]),
        (0x09, [0, 1, 0xF0, 0, 0, 0, 0])] : List (Byte × List Byte)),
      (asked r.1 r.2 State.reset).takes ⟨7, r.1, r.2⟩ [])
    ∧ State.reset.link.cache = [] ∧ State.reset.link.session = .closed
    ∧ formatAllowed 0x04 [] = true ∧ formatAllowed 0x13 [] = true := by decide

/-- A LINK STATS that waits with a cache, and with the cached reply it found at its hand-on. -/
def repeated (cache copies : List Reply) : State :=
  { asked 0x05 [0] State.reset with
    link := { (asked 0x05 [0] State.reset).link with cache := cache, copies := copies } }

/-- The reply cached, second in the cache; displaced, with the one found at the hand-on. -/
theorem witness_RepeatsAreAnsweredFromCache :
    (repeated [⟨6, 5, .ok, 0, []⟩, ⟨7, 5, .ok, 0, []⟩] []).takes ⟨7, 0x05, [0]⟩ []
    ∧ (∀ w ∈ ([⟨6, 5, .ok, 0, []⟩] : List Reply), ¬ (w.seq = 7 ∧ w.code = 5))
    ∧ (repeated [⟨6, 5, .ok, 0, []⟩] [⟨7, 5, .ok, 0, []⟩]).takes ⟨7, 0x05, [0]⟩ []
    ∧ (repeated [⟨6, 5, .ok, 0, []⟩] [⟨7, 5, .ok, 0, []⟩]).link.copies = [] ++ ⟨7, 5, .ok, 0, []⟩ :: [] := by decide

/-- A slot, the pending slot, and slot number 4. -/
theorem witness_ProfileClearEmptiesSlot :
    (∀ payload ∈ ([[0], [3], [4]] : List (List Byte)), (asked 0x07 payload (idleWith twoChannels)).carriesOut ⟨7, 0x07, payload⟩ [])
    ∧ (idleWith twoChannels).store.selected = none ∧ (asked 0x07 [0] (pendingWith twoChannels)).carriesOut ⟨7, 0x07, [0]⟩ []
    ∧ (pendingWith twoChannels).store.selected = some 0 := by decide

/-- Written: the tick divisor at 4,096 with the START spacing, and no field; refused: the divisor at 4,097, a field
supplied twice, a tag of no global field; slot number 4; the pending slot. -/
theorem witness_SetGlobalWritesItsFields :
    (∀ fields ∈ ([[(2, 4096), (6, 0)], [], [(2, 4097)], [(6, 0), (6, 1)], [(0x0B, 0)]] : List (List (Byte × BitVec 32))),
      ∀ b ∈ ([0, 1, 4] : List Byte), let payload := b :: (fields.map fieldBytes).flatten
      (asked 0x08 payload (idleWith twoChannels)).carriesOut ⟨7, 0x08, payload⟩ [])
    ∧ (asked 0x08 [0, 2, 1, 0, 0, 0] (pendingWith twoChannels)).carriesOut ⟨7, 0x08, 0 :: ([(2, 1)].map fieldBytes).flatten⟩ []
    ∧ startsFrom ((idleWith twoChannels).store.slots.get 1) 0 Profile.default
    ∧ startsFrom ((idleWith twoChannels).store.slots.get 0) 1 twoChannels
    ∧ writesAll writesGlobal [] [(2, 4096), (6, 0)] twoChannels { twoChannels with tickDivisor := 4096, startSpacing := 0 }
    ∧ writesAll writesGlobal [] [] twoChannels twoChannels
    ∧ refusesAt writesGlobal [] [(2, 4097)] twoChannels 2
    ∧ refusesAt writesGlobal [] [(6, 0), (6, 1)] twoChannels 6
    ∧ refusesAt writesGlobal [] [(0x0B, 0)] twoChannels 0x0B := by
  refine ⟨by decide, by decide, Or.inl ⟨by decide, rfl, rfl⟩, Or.inr (Or.inr (by decide)), ?_, ?_, ?_, ?_, ?_⟩ <;>
    simp [writesAll, refusesAt, writesGlobal]

/-- Written: the quota at 255 and the trace; refused: the quota at 256, a field supplied twice; channels 0, 12 and 13;
slot number 4; the pending slot. -/
theorem witness_SetChannelWritesItsField :
    (∀ fields ∈ ([[(0x13, 255), (0x15, 0)], [(0x13, 256)], [(0x14, 0), (0x14, 1)]] : List (List (Byte × BitVec 32))),
      ∀ b ∈ ([0, 4] : List Byte), ∀ c ∈ ([0, 12, 13] : List Byte), let payload := b :: c :: (fields.map fieldBytes).flatten
      (asked 0x09 payload (idleWith twoChannels)).carriesOut ⟨7, 0x09, payload⟩ [])
    ∧ (asked 0x09 [0, 1, 0x13, 1, 0, 0, 0] (pendingWith twoChannels)).carriesOut
        ⟨7, 0x09, 0 :: 1 :: ([(0x13, 1)].map fieldBytes).flatten⟩ []
    ∧ (12 : Byte).toNat = (11 : Channel).val + 1
    ∧ writesAll writesChannel [] [(0x13, 255), (0x15, 0)] twoEdges { twoEdges with quota := 255, trace := false }
    ∧ refusesAt writesChannel [] [(0x13, 256)] twoEdges 0x13
    ∧ refusesAt writesChannel [] [(0x14, 0), (0x14, 1)] twoEdges 0x14 := by
  refine ⟨by decide, by decide, by decide, ?_, ?_, ?_⟩ <;> simp [writesAll, refusesAt, writesChannel]

/-- ACTIVE with a profile and without; slots EMPTY, READY and DRAFT; slot number 4. -/
theorem witness_ProfileReadShowsContents :
    (∀ payload ∈ ([[0xFF], [0], [1], [2], [4]] : List (List Byte)), ∀ s ∈ [State.reset, idleWith twoChannels],
      (asked 0x0A payload { s with
        link := (idleWith twoChannels).link
        store := { s.store with slots := s.store.slots.set 2 (.draft 0 twoChannels) } }).carriesOut ⟨7, 0x0A, payload⟩ [])
    ∧ State.reset.engine.active = none ∧ (idleWith twoChannels).engine.active = some ⟨0, 1, twoChannels⟩
    ∧ (idleWith twoChannels).store.slots.get 0 = .ready 1 twoChannels
    ∧ (idleWith twoChannels).store.slots.get 1 = .empty := by decide

/-- Slot 1 DRAFT with these contents, the session OPEN. -/
def draftWith (p : Profile) : State :=
  { idleWith twoChannels with
    store := { ProfileStore.atReset with slots := ProfileStore.atReset.slots.set 1 (.draft 0xFFFF p) } }

/-- An empty set; a blanking delay at the window limit; a spacing at the window; IMMEDIATE with RESTART; none; and slot number 4. -/
theorem witness_ProfileCheckMakesReady :
    (∀ payload ∈ ([[0], [1], [4]] : List (List Byte)), (asked 0x0B payload (draftWith twoChannels)).carriesOut ⟨7, 0x0B, payload⟩ [])
    ∧ (draftWith twoChannels).store.slots.get 0 = .empty ∧ (idleWith twoChannels).store.slots.get 0 = .ready 1 twoChannels
    ∧ (draftWith twoChannels).store.slots.get 1 = .draft 0xFFFF twoChannels
    ∧ firstFailure Profile.default 1 0
    ∧ firstFailure { twoChannels with chans := Twelve.all { twoEdges with blanking := 100 } } 2 1
    ∧ firstFailure { twoChannels with chans := Twelve.all { twoEdges with spacing := 5000 } } 3 1
    ∧ firstFailure { twoChannels with overlap := .restart, startSource := .immediate } 4 0
    ∧ ∀ code channel, ¬ firstFailure twoChannels code channel := by
  refine ⟨by decide, by decide, by decide, by decide, Or.inl (by decide), Or.inr (Or.inl (by decide)),
    Or.inr (Or.inr ⟨by decide, by decide, Or.inl ⟨rfl, by decide⟩⟩),
    Or.inr (Or.inr ⟨by decide, by decide, Or.inr ⟨rfl, rfl, by decide⟩⟩), ?_⟩
  rintro code channel (⟨h, -⟩ | ⟨-, -, i, -, -, h, -⟩ | ⟨-, -, ⟨-, i, -, -, -, h, -⟩ | ⟨-, -, h, -⟩⟩)
  · exact absurd h (by decide)
  · exact absurd h (by revert i; decide)
  · exact absurd h (by revert i; decide)
  · exact absurd h (by decide)

theorem witness_ProfileSelectActs :
    (∀ payload ∈ ([[0xFF], [0], [1], [2], [4]] : List (List Byte)), ∀ s ∈ [idleWith twoChannels, measuringWith twoChannels],
      (asked 0x0C payload s).carriesOut ⟨7, 0x0C, payload⟩ [])
    ∧ (idleWith twoChannels).engine.state = .idle ∧ (measuringWith twoChannels).engine.state ≠ .idle
    ∧ (idleWith twoChannels).store.slots.get 0 = .ready 1 twoChannels
    ∧ (draftWith twoChannels).store.slots.get 1 = .draft 0xFFFF twoChannels
    ∧ (idleWith twoChannels).store.slots.get 1 = .empty := by decide

/-- Outside IDLE; with no profile; with an active profile; with a selection pending. -/
theorem witness_ArmBeginsRun :
    (∀ s ∈ [idleWith twoChannels, armedWith twoChannels, pendingWith twoChannels,
        { State.reset with link := (idleWith twoChannels).link }], (asked 0x0D [] s).carriesOut ⟨7, 0x0D, []⟩ [])
    ∧ (armedWith twoChannels).engine.state ≠ .idle ∧ (idleWith twoChannels).engine.state = .idle
    ∧ State.reset.engine.active = none ∧ State.reset.store.selected = none
    ∧ (idleWith twoChannels).engine.active = some ⟨0, 1, twoChannels⟩
    ∧ (pendingWith twoChannels).store.selected = some 0
    ∧ (pendingWith twoChannels).store.slots.get 0 = .ready 1 twoChannels := by decide

/-- Every engine state. -/
theorem witness_DisarmEndsOrRequestsStop :
    ∀ s ∈ [idleWith twoChannels, armedWith twoChannels, measuringWith twoChannels, stalledWith twoChannels,
        holdoffWith twoChannels 3],
      (asked 0x0E [] s).carriesOut ⟨7, 0x0E, []⟩ [] := by decide

theorem witness_AbortEndsTheRun :
    ∀ s ∈ [idleWith twoChannels, armedWith twoChannels, stalledWith twoChannels, holdoffWith twoChannels 3],
      (asked 0x0F [] s).carriesOut ⟨7, 0x0F, []⟩ []
        ∧ (s.engine.state = .stalled ↔ s.engine.closeBuffer.isSome = true) := by decide

theorem witness_AbortClosesTheCycle :
    (asked 0x0F [] (measuringWith twoChannels)).carriesOut ⟨7, 0x0F, []⟩ []
      ∧ (measuringWith twoChannels).engine.state = .measuring ∧ (measuringWith twoChannels).engine.cycle.isSome = true
      ∧ (measuringWith twoChannels).engine.active = some ⟨0, 1, twoChannels⟩ := by decide

/-- The position omitted; positions 0, 1 and 23 against one record; and 24. -/
theorem witness_ResultReadDelivers :
    (∀ payload ∈ ([[], [0], [1], [23], [24]] : List (List Byte)),
      (asked 0x11 payload (holdoffWith twoChannels 3)).carriesOut ⟨7, 0x11, payload⟩ [])
    ∧ (holdoffWith twoChannels 3).queue.entries.length = 1 := by decide

/-- The queue of a HOLDOFF state, its record delivered. -/
def deliveredQueue : ResultQueue := markDelivered 0 (holdoffWith twoChannels 3).queue

/-- A number not held, and the number of an undelivered record. -/
theorem witness_ResultAckIsTested :
    (∀ payload ∈ ([[9, 0, 0, 0], [1, 0, 0, 0]] : List (List Byte)),
      (asked 0x12 payload (holdoffWith twoChannels 3)).carriesOut ⟨7, 0x12, payload⟩ [])
    ∧ ((holdoffWith twoChannels 3).queue.entries.map fun e => (e.record.number.toNat, e.delivered)) = [(1, false)] := by
  decide

/-- The same with a record that cost no trace timestamps, the trace pool full. -/
def crowdedQueue : ResultQueue :=
  { deliveredQueue with
    entries := deliveredQueue.entries.map fun e => { e with cost := ⟨2, 0⟩ }
    used := ⟨1, 2, 192⟩ }

/-- A delivered record with none held; with one held that fits once it has left; and with one that does not, the trace
pool staying full. -/
theorem witness_ResultAckReleases :
    (∀ s ∈ [{ holdoffWith twoChannels 3 with queue := deliveredQueue },
        { stalledWith twoChannels with queue := deliveredQueue },
        { stalledWith twoChannels with queue := crowdedQueue }],
      (asked 0x12 [1, 0, 0, 0] s).carriesOut ⟨7, 0x12, [1, 0, 0, 0]⟩ []
        ∧ (s.queue.entries.map fun e => (e.record.number.toNat, e.delivered)) = [(1, true)])
    ∧ (stalledWith twoChannels).engine.closeBuffer = some (closedWith twoChannels)
    ∧ ({ deliveredQueue with entries := [], used := ⟨0, 0, 0⟩ } : ResultQueue).hasRoom
        (closedWith twoChannels).cost (closedWith twoChannels).record.number
    ∧ ¬ ({ crowdedQueue with entries := [], used := ⟨0, 0, 192⟩ } : ResultQueue).hasRoom
        (closedWith twoChannels).cost (closedWith twoChannels).record.number := by decide

theorem witness_QueueStatusCounts :
    (asked 0x13 [] (holdoffWith twoChannels 3)).carriesOut ⟨7, 0x13, []⟩ [] ∧ (holdoffWith twoChannels 3).queue.sound := by decide

/-- Of the six statements that every step keeps an invariant: after reset, and with a cycle open and a command at the
front of the queue, every invariant holds and the step goes on. -/
theorem witness_StepsKeepInvariants :
    ∀ s ∈ [State.reset, { measuringAt twoChannels 3 2 with pending := [.stopTransition 1] }],
      s.accounted ∧ s.engineShaped ∧ s.unitsShaped ∧ s.profilesSound ∧ s.queue.sound ∧ s.link.sound ∧ s.recordsSound
        ∧ s.runBounded ∧ goesOn (step s) = true := by decide

/-- ARM leaves IDLE; a start begins a cycle. -/
theorem witness_OnlyArmLeavesIdleAndCountersCount :
    (idleWith twoChannels).engineShaped ∧ (idleWith twoChannels).engine.state = .idle
    ∧ (after .arm (asked 0x0D [] (idleWith twoChannels))).map (fun t => decide (t.engine.state = .idle)) = some false
    ∧ (after .startTransition (armedWith twoChannels)).map (fun t => t.engine.cycleCounter) = some 1 := by decide

end Sys2Proof.Tests
end
end

section
/-! PROOF. Start events the engine does not take (Tables 3-3 and 3-5): those of IDLE, disregarded (R38), and those of an
accepted source that are only counted (R34, R37). A start reaches the engine in two forms, a qualified START edge and a
START request; each form is reduced once to `startEvent`, whose answer is then read off the engine state. -/

namespace Sys2Proof.Machine

/-! ### What a start event does when it is not taken (Table 3-3) -/

/-- In IDLE the start source plays no part: accepted or not, the event leaves everything as it is. -/
theorem startEvent_idle {src : StartTaken} {s : State} (h : s.engine.state = .idle) : startEvent src s = s := by
  unfold startEvent
  split
  · rw [h]
  · rfl

theorem startEvent_measuring_ignore {src : StartTaken} {s : State} (ha : s.profile.startSource.accepts src = true)
    (h : s.engine.state = .measuring) (ho : s.profile.overlap = .ignore) : startEvent src s = countOverlap s := by
  rw [startEvent, if_pos ha, h, ho]

theorem startEvent_stalled_or_holdoff {src : StartTaken} {s : State} (ha : s.profile.startSource.accepts src = true)
    (h : s.engine.state = .stalled ∨ s.engine.state = .holdoff) : startEvent src s = missStart s := by
  rw [startEvent, if_pos ha]
  rcases h with h | h <;> rw [h]

/-- The overlap count saturates at 255 (R34). -/
theorem countOverlap_eq (s : State) : countOverlap s = { s with engine := { s.engine with
    overlaps := if s.engine.overlaps = 0xFF then 0xFF else s.engine.overlaps + 1 } } := by
  rw [countOverlap, satInc_byte]

/-- The missed-start count saturates at 65,535 (R37). -/
theorem missStart_eq (s : State) : missStart s = { s with engine := { s.engine with
    missed := if s.engine.missed = 0xFFFF then 0xFFFF else s.engine.missed + 1 } } := by
  rw [missStart, satInc_word]

/-! ### The answer to a START request that is not taken (Table 3-5) -/

theorem startAnswer_idle {s t : State} (h : s.engine.state = .idle) : startAnswer s t = .refuse .state :=
  if_pos h

theorem startAnswer_measuring_ignore {s t : State} (ha : s.profile.startSource.accepts .host = true)
    (h : s.engine.state = .measuring) (ho : s.profile.overlap = .ignore) : startAnswer s t = .refuse .busy := by
  simp [startAnswer, ha, h, ho]

theorem startAnswer_stalled_or_holdoff {s t : State} (ha : s.profile.startSource.accepts .host = true)
    (h : s.engine.state = .stalled ∨ s.engine.state = .holdoff) : startAnswer s t = .refuse .state := by
  rcases h with h | h <;> simp [startAnswer, ha, h]

/-! ### The two forms of start -/

/-- A qualified START edge is a start event of source EXTERNAL, on the state with the edge sampled and held by the filter
(R18, R23). -/
theorem exec_startTransition_qualified {s : State} (hm : s.movesWhole .start) (he : s.inputs.start.seesEdge = true)
    (hs : s.inputs.start.spaced s.now = true) :
    exec .startTransition s = .next (startEvent .external (startSampled s)) := by
  obtain ⟨⟨hlive, hmoved⟩, hwhole⟩ := hm
  have hedge : (s.inputs.line .start).seesEdge = true := he
  have hspaced : (s.inputs.line .start).spaced s.now = true := hs
  have hsampled : judgeLine .start (moveLine .start s) = startSampled s := by
    rw [judgeLine_moveLine hedge, if_pos hspaced]
    rfl
  have htake : takeTransition .start s = startEvent .external (startSampled s) := by
    rw [takeTransition_edge hlive hmoved hwhole hedge, hsampled, hspaced]
    rfl
  exact congrArg Host.Outcome.next htake

/-- A START request that is carried out is a start event of source HOST (R49): it leaves what the event leaves, and the
answer of Table 3-5. -/
theorem exec_start_carriesOut {s t : State} {r : Request} {rest : List Request} {a : Answer}
    (h : s.carriesOut r rest) (hc : r.code = 0x10) (he : startEvent .host (popIntake s) = popIntake t)
    (ha : startAnswer s t = a) (hi : t.link.intake = s.link.intake) :
    exec .start s = .next (t.answeredWith r rest a.status a.detail a.body) := by
  have hcarry : carryStart r (popIntake s) = (popIntake t, a) := by
    rw [carryStart, he]
    exact congrArg (Prod.mk (popIntake t)) ha
  exact congrArg Host.Outcome.next (takeRequest_answers h hc hcarry hi)

/-- Settles O9: in IDLE a start event leaves the engine as it is, so an edge leaves only what sampling and the filter
leave, and a request only its answer. -/
theorem startsInIdleAreDisregarded : Obligations.StartsInIdleAreDisregarded := by
  refine ⟨fun s hm hidle hedge hspaced => ?_, fun s r rest hr hcode hidle => ?_⟩
  · rw [exec_startTransition_qualified hm hedge hspaced, startEvent_idle (s := startSampled s) hidle]
  · exact exec_start_carriesOut hr hcode (startEvent_idle hidle) (startAnswer_idle hidle) rfl

/-- Settles O12: sampling an edge and taking a request leave the engine and the active profile alone, so either form of
start meets the same branch of Table 3-3. -/
theorem startsNotTakenAreCounted : Obligations.StartsNotTakenAreCounted := by
  refine ⟨fun s a hm hactive hsource hedge hspaced => ?_, fun s r rest a hr hcode hactive hsource => ?_⟩
  · have hprofile : (startSampled s).profile = a.profile := profile_of_active hactive
    have haccepts : (startSampled s).profile.startSource.accepts .external = true := by
      rw [hprofile, accepts_external_iff]
      exact hsource
    rw [exec_startTransition_qualified hm hedge hspaced]
    refine ⟨fun hmeasuring hignore => ?_, fun hwaiting => ?_⟩
    · rw [startEvent_measuring_ignore haccepts hmeasuring (hprofile ▸ hignore), countOverlap_eq]
      rfl
    · rw [startEvent_stalled_or_holdoff haccepts hwaiting, missStart_eq]
      rfl
  · have hprofile : s.profile = a.profile := profile_of_active hactive
    have haccepts : s.profile.startSource.accepts .host = true := by
      rw [hprofile, accepts_host_iff]
      exact hsource
    refine ⟨fun hmeasuring hignore => ?_, fun hwaiting => ?_⟩
    · have hoverlap : s.profile.overlap = .ignore := hprofile ▸ hignore
      rw [← countOverlap_eq]
      exact exec_start_carriesOut (t := countOverlap s) hr hcode
        (startEvent_measuring_ignore (s := popIntake s) haccepts hmeasuring hoverlap)
        (startAnswer_measuring_ignore haccepts hmeasuring hoverlap) rfl
    · rw [← missStart_eq]
      exact exec_start_carriesOut (t := missStart s) hr hcode
        (startEvent_stalled_or_holdoff (s := popIntake s) haccepts hwaiting)
        (startAnswer_stalled_or_holdoff haccepts hwaiting) rfl

end Sys2Proof.Machine
end

section
/-! PROOF. The profile requests: the slot number of a request, a request carried out, and a slot rewritten (R98, R147).
PROFILE CLEAR is settled here (R101). -/

namespace Sys2Proof.Machine

/-! ### What a carried-out request leaves -/

/-- A command that carries a request out by `f` leaves what `f` leaves, and its answer (R147). -/
theorem exec_answers {i : Instr} {code : Byte} {f : Request → State → State × Answer} {s t : State} {r : Request}
    {rest : List Request} {a : Answer} (hx : ∀ u, exec i u = .next (takeRequest (codeIs code) (answered f) u))
    (h : s.carriesOut r rest) (hc : r.code = code) (hf : f r (popIntake s) = (popIntake t, a))
    (hi : t.link.intake = s.link.intake) : exec i s = .next (t.answeredWith r rest a.status a.detail a.body) :=
  (hx s).trans (congrArg Host.Outcome.next (takeRequest_answers h hc hf hi))

/-- A request that is refused, or that only reads, leaves nothing but its answer. -/
theorem exec_only_answers {i : Instr} {code : Byte} {f : Request → State → State × Answer} {s : State} {r : Request}
    {rest : List Request} {a : Answer} (hx : ∀ u, exec i u = .next (takeRequest (codeIs code) (answered f) u))
    (h : s.carriesOut r rest) (hc : r.code = code) (hf : f r (popIntake s) = (popIntake s, a)) :
    exec i s = .next (s.answeredWith r rest a.status a.detail a.body) :=
  exec_answers hx h hc hf rfl

/-- A slot rewritten and the request answered OK: that slot alone differs. -/
theorem setSlot_answered {o : Host.Outcome State Fault Refusal} {s : State} {r : Request} {rest : List Request}
    {k : Fin 4} {v : Slot} {body : List Byte} (h : o = .next ((setSlot k v s).answeredWith r rest .ok 0 body)) :
    ∃ t, o = .next t ∧ t.store.slots.get k = v ∧ (∀ j, j ≠ k → t.store.slots.get j = s.store.slots.get j)
      ∧ t = { s with store := { s.store with slots := t.store.slots } }.answeredWith r rest .ok 0 body :=
  ⟨_, h, Four.get_set_same s.store.slots k v, fun _ hj => Four.get_set_ne s.store.slots v hj, rfl⟩

/-! ### The slot number of a request (R98) -/

theorem payloadByte_zero {r : Request} {b : Byte} {l : List Byte} (h : r.payload = b :: l) : payloadByte 0 r = b := by
  simp [payloadByte, h]

theorem slotOf_eq_some {b : Byte} {k : Fin 4} (h : b.toNat = k.val) : slotOf b = some k := by
  simp [slotOf, h]

theorem slotOf_eq_none {b : Byte} (h : 3 < b.toNat) : slotOf b = none :=
  dif_neg (by omega)

theorem slotNumber_eq_some {r : Request} {b : Byte} {l : List Byte} {k : Fin 4} (hp : r.payload = b :: l)
    (hk : b.toNat = k.val) : slotOf (payloadByte 0 r) = some k := by
  rw [payloadByte_zero hp, slotOf_eq_some hk]

theorem slotNumber_eq_none {r : Request} {b : Byte} {l : List Byte} (hp : r.payload = b :: l) (hb : 3 < b.toNat) :
    slotOf (payloadByte 0 r) = none := by
  rw [payloadByte_zero hp, slotOf_eq_none hb]

/-- The byte of ACTIVE and NONE is no slot number (Table 11-8). -/
theorem slot_ne_all_ones {b : Byte} {k : Fin 4} (hk : b.toNat = k.val) : b ≠ 0xFF := by
  rintro rfl
  have : (255 : Nat) = k.val := hk
  omega

/-! ### PROFILE CLEAR (R101) -/

theorem clearSlot_none {r : Request} {s : State} (h : slotOf (payloadByte 0 r) = none) :
    clearSlot r s = (s, .range slotField) := by
  simp [clearSlot, h]

theorem clearSlot_selected {r : Request} {s : State} {k : Fin 4} (h : slotOf (payloadByte 0 r) = some k)
    (hs : s.store.selected = some k) : clearSlot r s = (s, .refuse .inUse) := by
  simp [clearSlot, h, hs]

theorem clearSlot_some {r : Request} {s : State} {k : Fin 4} (h : slotOf (payloadByte 0 r) = some k)
    (hs : s.store.selected ≠ some k) : clearSlot r s = (setSlot k .empty s, .okWith []) := by
  simp [clearSlot, h, hs]

/-- Settles O39: the number names a slot or none, and a slot is pending or not. -/
theorem profileClearEmptiesSlot : Obligations.ProfileClearEmptiesSlot := by
  intro s r rest b hr hcode hp
  refine ⟨fun k hk => ⟨fun hs => setSlot_answered ?_, fun hs => ?_⟩, fun hb => ?_⟩
  · exact exec_answers (t := setSlot k .empty s) (fun _ => rfl) hr hcode
      (clearSlot_some (slotNumber_eq_some hp hk) hs) rfl
  · exact exec_only_answers (fun _ => rfl) hr hcode (clearSlot_selected (slotNumber_eq_some hp hk) hs)
  · exact exec_only_answers (fun _ => rfl) hr hcode (clearSlot_none (slotNumber_eq_none hp hb))

end Sys2Proof.Machine
end

section
/-! PROOF. Tagged fields: a payload divided into them (R173), a field's number read into its place (Tables 6-1 and 11-4),
and a list of them written in order up to the first that fails (R98, R100). PROFILE SET GLOBAL is settled here. -/

namespace Sys2Proof.Machine

/-! ### A payload divided into tagged fields (R173) -/

theorem ofLittleEndian_littleEndian (k n : Nat) : ofLittleEndian (littleEndian k n) = n % 256 ^ k := by
  induction k generalizing n with
  | zero => simp [littleEndian, ofLittleEndian, Nat.mod_one]
  | succ k ih =>
    rw [littleEndian, ofLittleEndian, ih, BitVec.toNat_ofNat, pow_succ' 256 k, Nat.mod_mul]

/-- One tagged field before the rest of a payload. -/
theorem taggedFields_fieldBytes (f : TaggedField) (l : List Byte) :
    taggedFields (fieldBytes f ++ l) = if badTag f.1 then none else (taggedFields l).map (f :: ·) := by
  have hvalue : BitVec.ofNat 32 (ofLittleEndian (littleEndian 4 f.2.toNat)) = f.2 := by
    rw [ofLittleEndian_littleEndian, Nat.mod_eq_of_lt (b := 256 ^ 4) f.2.isLt, BitVec.ofNat_toNat, BitVec.setWidth_eq]
  simp only [littleEndian] at hvalue
  simp only [fieldBytes, littleEndian, List.cons_append, List.nil_append, taggedFields, hvalue]

/-- A payload that can be divided at all is divided into the fields it was made of. -/
theorem taggedFields_flatten {fields : List TaggedField}
    (h : (taggedFields (fields.map fieldBytes).flatten).isSome = true) :
    taggedFields (fields.map fieldBytes).flatten = some fields := by
  induction fields with
  | nil => rfl
  | cons f fs ih =>
    rw [List.map_cons, List.flatten_cons, taggedFields_fieldBytes] at h ⊢
    split at h
    · simp at h
    · next hgood => rw [if_neg hgood, ih (by simpa using h), Option.map_some]

/-- A request that passes the common checks has an allowed format (R150). -/
theorem formatAllowed_of_commonChecks {r : Request} {session : Session} (h : commonChecks r session = none) :
    formatAllowed r.code r.payload = true := by
  by_contra hf
  rw [Bool.not_eq_true] at hf
  cases hk : knownCode r.code <;> simp [commonChecks, hk, hf] at h

/-- The fields of a PROFILE SET GLOBAL that passes the common checks. -/
theorem setGlobal_fields {r : Request} {session : Session} {b : Byte} {fields : List TaggedField}
    (h : commonChecks r session = none) (hc : r.code = 0x08) (hp : r.payload = b :: (fields.map fieldBytes).flatten) :
    fieldsAfter 1 r.payload = some fields := by
  have hf := formatAllowed_of_commonChecks h
  rw [hc, hp] at hf
  rw [hp]
  exact taggedFields_flatten hf

/-! ### A global field written (Tables 6-1, 11-4 and 11-8) -/

theorem inRange_eq_some_iff {w low high n : Nat} {v : BitVec w} :
    inRange low high n = some v ↔ low ≤ n ∧ n ≤ high ∧ v = BitVec.ofNat w n := by
  unfold inRange
  split <;> simp_all [eq_comm]

theorem startSource_ofCode_eq_some_iff {n : Nat} {v : StartSource} : StartSource.ofCode n = some v ↔
    n = 0 ∧ v = .external ∨ n = 1 ∧ v = .host ∨ n = 2 ∧ v = .either ∨ n = 3 ∧ v = .immediate := by
  unfold StartSource.ofCode
  split <;> simp_all [eq_comm]

theorem edgeSelection_ofCode_eq_some_iff {n : Nat} {v : EdgeSelection} : EdgeSelection.ofCode n = some v ↔
    n = 0 ∧ v = .rising ∨ n = 1 ∧ v = .falling ∨ n = 2 ∧ v = .both := by
  unfold EdgeSelection.ofCode
  split <;> simp_all [eq_comm]

theorem overlapPolicy_ofCode_eq_some_iff {n : Nat} {v : OverlapPolicy} : OverlapPolicy.ofCode n = some v ↔
    n = 0 ∧ v = .ignore ∨ n = 1 ∧ v = .restart := by
  unfold OverlapPolicy.ofCode
  split <;> simp_all [eq_comm]

theorem fullPolicy_ofCode_eq_some_iff {n : Nat} {v : FullPolicy} : FullPolicy.ofCode n = some v ↔
    n = 0 ∧ v = .hold ∨ n = 1 ∧ v = .discard := by
  unfold FullPolicy.ofCode
  split <;> simp_all [eq_comm]

/-- A field is written exactly as the tables say. -/
theorem writeGlobal_eq_some_iff (f : TaggedField) (p q : Profile) :
    writeGlobal f p = some q ↔ writesGlobal f.1.toNat f.2.toNat p q := by
  have hword : f.2.toNat ≤ 4294967295 := Nat.le_of_lt_succ f.2.isLt
  unfold writeGlobal writesGlobal
  split
  case h_11 => simp_all -- the tag of no global field
  all_goals
    next htag =>
    simp [htag, hword, inRange_eq_some_iff, startSource_ofCode_eq_some_iff, edgeSelection_ofCode_eq_some_iff,
      overlapPolicy_ofCode_eq_some_iff, fullPolicy_ofCode_eq_some_iff, or_and_right, and_assoc, exists_or,
      eq_comm (a := q)]

/-! ### Fields written in their order (R98, R100) -/

section
variable {α : Type} {write : TaggedField → α → Option α} {writes : Nat → Nat → α → α → Prop}

theorem writeFields_of_writesAll (hw : ∀ f p q, write f p = some q ↔ writes f.1.toNat f.2.toNat p q)
    {seen : List Byte} {fields : List TaggedField} {p q : α} (h : writesAll writes seen fields p q) :
    writeFields write seen fields p = .ok q := by
  induction fields generalizing seen p with
  | nil => rw [writeFields, show q = p from h]
  | cons f fs ih =>
    obtain ⟨hnew, m, hm, hrest⟩ := h
    simp [writeFields, hnew, (hw f p m).2 hm, ih hrest]

theorem writeFields_of_refusesAt (hw : ∀ f p q, write f p = some q ↔ writes f.1.toNat f.2.toNat p q)
    {seen : List Byte} {fields : List TaggedField} {p : α} {tag : Byte} (h : refusesAt writes seen fields p tag) :
    writeFields write seen fields p = .error tag := by
  induction fields generalizing seen p with
  | nil => exact h.elim
  | cons f fs ih =>
    rcases h with ⟨rfl, hseen | hnone⟩ | ⟨hnew, m, hm, hrest⟩
    · simp [writeFields, hseen]
    · have hfails : write f p = none := Option.eq_none_iff_forall_ne_some.2 fun m hm => hnone m ((hw f p m).1 hm)
      simp [writeFields, hfails]
    · simp [writeFields, hnew, (hw f p m).2 hm, ih hrest]

end

/-! ### PROFILE SET GLOBAL (R98 to R100) -/

/-- What a write starts from is the slot's base contents, and the revision it keeps the slot's. -/
theorem base_revision_of_startsFrom {slot : Slot} {rev : BitVec 16} {p : Profile} (h : startsFrom slot rev p) :
    slot.base = p ∧ slot.revision = rev := by
  rcases h with ⟨rfl, rfl, rfl⟩ | rfl | rfl <;> exact ⟨rfl, rfl⟩

theorem setGlobal_none {r : Request} {s : State} (h : slotOf (payloadByte 0 r) = none) :
    setGlobal r s = (s, .range slotField) := by
  simp [setGlobal, h]

theorem setGlobal_selected {r : Request} {s : State} {k : Fin 4} (h : slotOf (payloadByte 0 r) = some k)
    (hs : s.store.selected = some k) : setGlobal r s = (s, .refuse .inUse) := by
  simp [setGlobal, h, hs]

section
variable {r : Request} {s : State} {k : Fin 4} {fields : List TaggedField} {rev : BitVec 16} {p : Profile}

theorem setGlobal_writes {q : Profile} (h : slotOf (payloadByte 0 r) = some k) (hs : s.store.selected ≠ some k)
    (hf : fieldsAfter 1 r.payload = some fields) (hb : startsFrom (s.store.slots.get k) rev p)
    (hw : writesAll writesGlobal [] fields p q) :
    setGlobal r s = (setSlot k (.draft rev q) s, .okWith (bytesOf 2 rev)) := by
  obtain ⟨hbase, hrev⟩ := base_revision_of_startsFrom hb
  simp [setGlobal, h, hs, hf, hbase, hrev, writtenSlot, writeFields_of_writesAll writeGlobal_eq_some_iff hw]

theorem setGlobal_refuses {tag : Byte} (h : slotOf (payloadByte 0 r) = some k) (hs : s.store.selected ≠ some k)
    (hf : fieldsAfter 1 r.payload = some fields) (hb : startsFrom (s.store.slots.get k) rev p)
    (hw : refusesAt writesGlobal [] fields p tag) : setGlobal r s = (s, .range tag) := by
  obtain ⟨hbase, -⟩ := base_revision_of_startsFrom hb
  simp [setGlobal, h, hs, hf, hbase, writeFields_of_refusesAt writeGlobal_eq_some_iff hw]

end

/-- Settles O40: the payload that passed the format check is divided into the fields given, and each of them is written
where the tables write it, up to the first that is not. -/
theorem setGlobalWritesItsFields : Obligations.SetGlobalWritesItsFields := by
  intro s r rest b fields hr hcode hp
  have hfields : fieldsAfter 1 r.payload = some fields := setGlobal_fields hr.2.2 hcode hp
  refine ⟨fun hb => ?_, fun k hk => ?_⟩
  · exact exec_only_answers (fun _ => rfl) hr hcode (setGlobal_none (slotNumber_eq_none hp hb))
  have hslot : slotOf (payloadByte 0 r) = some k := slotNumber_eq_some hp hk
  refine ⟨fun hs => ?_, fun rev p hs hstart => ⟨fun q hw => setSlot_answered ?_, fun tag hw => ?_⟩⟩
  · exact exec_only_answers (fun _ => rfl) hr hcode (setGlobal_selected hslot hs)
  · exact exec_answers (t := setSlot k (.draft rev q) s) (fun _ => rfl) hr hcode
      (setGlobal_writes hslot hs hfields hstart hw) rfl
  · exact exec_only_answers (fun _ => rfl) hr hcode (setGlobal_refuses hslot hs hfields hstart hw)

end Sys2Proof.Machine
end

section
/-! PROOF. The bytes a PROFILE READ shows (R111 to R113, Tables 11-5 and 11-6): a field found at its offset by passing the
fields before it, and the twelve channels as chunks of seven bytes. PROFILE READ is settled here. -/

namespace Sys2Proof.Machine

/-! ### A field at an offset (R171) -/

@[simp] theorem length_littleEndian (k n : Nat) : (littleEndian k n).length = k := by
  induction k generalizing n with
  | zero => rfl
  | succ k ih => rw [littleEndian, List.length_cons, ih]

@[simp] theorem length_bytesOf {w : Nat} (k : Nat) (x : BitVec w) : (bytesOf k x).length = k :=
  length_littleEndian k x.toNat

/-- A field is looked for behind the bytes before it. -/
theorem fieldAt_append_right {a l : List Byte} {offset : Nat} (width : Nat) (h : a.length ≤ offset) :
    fieldAt (a ++ l) offset width = fieldAt l (offset - a.length) width := by
  rw [fieldAt, List.drop_append, List.drop_eq_nil_of_le h, List.nil_append, fieldAt]

/-- A field that ends within the first bytes is not read from the others. -/
theorem fieldAt_append_left {a : List Byte} (l : List Byte) {offset width : Nat} (h : offset + width ≤ a.length) :
    fieldAt (a ++ l) offset width = fieldAt a offset width := by
  rw [fieldAt, List.drop_append_of_le_length (by omega), List.take_append_of_le_length (by simp; omega), fieldAt]

theorem fieldAt_cons (b : Byte) (l : List Byte) {offset : Nat} (width : Nat) (h : 0 < offset) :
    fieldAt (b :: l) offset width = fieldAt l (offset - 1) width :=
  fieldAt_append_right (a := [b]) width h

theorem fieldAt_bytesOf_append {w : Nat} (k : Nat) (x : BitVec w) (l : List Byte) {offset : Nat} (width : Nat)
    (h : k ≤ offset) : fieldAt (bytesOf k x ++ l) offset width = fieldAt l (offset - k) width := by
  simpa using fieldAt_append_right (a := bytesOf k x) (l := l) width (by simpa using h)

@[simp] theorem fieldAt_byte (b : Byte) (l : List Byte) : fieldAt (b :: l) 0 1 = b.toNat := by
  simp [fieldAt, ofLittleEndian]

/-- A word whose bytes hold its whole width is read back. -/
theorem fieldAt_bytesOf {w k : Nat} (x : BitVec w) (l : List Byte) (h : w ≤ 8 * k) :
    fieldAt (bytesOf k x ++ l) 0 k = x.toNat := by
  have hlt : x.toNat < 256 ^ k := calc
    x.toNat < 2 ^ w := x.isLt
    _ ≤ 2 ^ (8 * k) := Nat.pow_le_pow_right (by decide) h
    _ = 256 ^ k := Nat.pow_mul 2 8 k
  rw [fieldAt_append_left l (by simp), fieldAt, List.drop_zero, List.take_of_length_le (by simp), bytesOf,
    ofLittleEndian_littleEndian, Nat.mod_eq_of_lt hlt]

/-- Among chunks of one length, a field of the `n`th chunk. -/
theorem fieldAt_flatten {α : Type} {chunk : α → List Byte} {m k width : Nat} (hm : ∀ a, (chunk a).length = m)
    (hk : k + width ≤ m) {as : List α} {n : Nat} {a : α} (h : as[n]? = some a) :
    fieldAt (as.map chunk).flatten (m * n + k) width = fieldAt (chunk a) k width := by
  induction as generalizing n with
  | nil => simp at h
  | cons b bs ih =>
    cases n with
    | zero =>
      obtain rfl : b = a := by simpa using h
      rw [List.map_cons, List.flatten_cons, Nat.mul_zero, Nat.zero_add, fieldAt_append_left _ (by rw [hm]; exact hk)]
    | succ n =>
      have hnext : m * (n + 1) = m * n + m := Nat.mul_succ m n
      have hoffset : m * (n + 1) + k - m = m * n + k := by omega
      rw [List.map_cons, List.flatten_cons, fieldAt_append_right _ (by rw [hm]; omega), hm, hoffset]
      exact ih (by simpa using h)

/-! ### The profile block (Table 11-6) -/

theorem edgeSelection_code (e : EdgeSelection) : e.code.toNat = edgeCode e := by
  cases e <;> rfl

theorem channels_getElem? (i : Channel) : channels[i.val]? = some i := by
  fin_cases i <;> rfl

theorem length_channelFieldBytes (f : ChannelFields) : (channelFieldBytes f).length = 7 := by
  simp [channelFieldBytes]

/-- The ten global fields of the block. -/
def globalBytes (p : Profile) : List Byte :=
  bytesOf 2 p.channelSet ++ bytesOf 2 p.tickDivisor ++ bytesOf 4 p.windowLimit ++ [p.startSource.code, p.startEdge.code]
    ++ bytesOf 2 p.startSpacing ++ [p.overlap.code] ++ bytesOf 2 p.runLength ++ bytesOf 2 p.holdoff ++ [p.full.code]

/-- The twelve channels of the block, in ascending order. -/
def channelBytes (p : Profile) : List Byte := (channels.map fun i => channelFieldBytes (p.chans.get i)).flatten

theorem profileBlock_eq (p : Profile) : profileBlock p = globalBytes p ++ channelBytes p := rfl

theorem length_globalBytes (p : Profile) : (globalBytes p).length = 18 := by
  simp [globalBytes]

theorem length_channelBytes (p : Profile) : (channelBytes p).length = 84 := by
  simp [channelBytes, length_channelFieldBytes, channels]

/-- A field of a channel stands in the channel's seven bytes. -/
theorem fieldAt_profileBlock_channel (p : Profile) (i : Channel) {k width : Nat} (hk : k + width ≤ 7) :
    fieldAt (profileBlock p) (18 + k + 7 * i.val) width = fieldAt (channelFieldBytes (p.chans.get i)) k width := by
  have hoffset : 18 + k + 7 * i.val - 18 = 7 * i.val + k := by omega
  rw [profileBlock_eq, fieldAt_append_right width (by rw [length_globalBytes]; omega), length_globalBytes, hoffset]
  exact fieldAt_flatten (chunk := fun j => channelFieldBytes (p.chans.get j))
    (fun j => length_channelFieldBytes (p.chans.get j)) hk (channels_getElem? i)

/-- The five fields of a channel, each in its place. -/
theorem channelFieldBytes_shows (f : ChannelFields) :
    fieldAt (channelFieldBytes f) 0 1 = edgeCode f.stopEdge ∧ fieldAt (channelFieldBytes f) 1 2 = f.spacing.toNat
      ∧ fieldAt (channelFieldBytes f) 3 1 = f.quota.toNat ∧ fieldAt (channelFieldBytes f) 4 2 = f.blanking.toNat
      ∧ fieldAt (channelFieldBytes f) 6 1 = if f.trace = true then 1 else 0 := by
  have hflag : (flagByte f.trace).toNat = if f.trace = true then 1 else 0 := by cases f.trace <;> rfl
  simp [channelFieldBytes, fieldAt_cons, fieldAt_bytesOf_append, fieldAt_bytesOf, edgeSelection_code, hflag]

/-- The ten global fields, each in its place, whatever follows. -/
theorem globalBytes_show (p : Profile) (l : List Byte) :
    fieldAt (globalBytes p ++ l) 0 2 = p.channelSet.toNat ∧ fieldAt (globalBytes p ++ l) 2 2 = p.tickDivisor.toNat
      ∧ fieldAt (globalBytes p ++ l) 4 4 = p.windowLimit.toNat
      ∧ fieldAt (globalBytes p ++ l) 8 1 = p.startSource.code.toNat
      ∧ fieldAt (globalBytes p ++ l) 9 1 = p.startEdge.code.toNat
      ∧ fieldAt (globalBytes p ++ l) 10 2 = p.startSpacing.toNat
      ∧ fieldAt (globalBytes p ++ l) 12 1 = p.overlap.code.toNat
      ∧ fieldAt (globalBytes p ++ l) 13 2 = p.runLength.toNat ∧ fieldAt (globalBytes p ++ l) 15 2 = p.holdoff.toNat
      ∧ fieldAt (globalBytes p ++ l) 17 1 = p.full.code.toNat := by
  simp [globalBytes, fieldAt_cons, fieldAt_bytesOf_append, fieldAt_bytesOf]

/-- The block shows the contents it was made of. -/
theorem profileBlock_shows (p : Profile) : blockShows (profileBlock p) p := by
  have hlength : (profileBlock p).length = 102 := by
    rw [profileBlock_eq, List.length_append, length_globalBytes, length_channelBytes]
  obtain ⟨hset, hdivisor, hlimit, hsource, hedge, hspacing, hoverlap, hrun, hholdoff, hfull⟩ :=
    globalBytes_show p (channelBytes p)
  refine ⟨hlength, hset, hdivisor, hlimit, hsource.trans ?_, hedge.trans (edgeSelection_code _), hspacing,
    hoverlap.trans ?_, hrun, hholdoff, hfull.trans ?_, fun i => ?_⟩
  · cases p.startSource <;> rfl
  · cases p.overlap <;> rfl
  · cases p.full <;> rfl
  · obtain ⟨hedge, hspacing, hquota, hblanking, htrace⟩ := channelFieldBytes_shows (p.chans.get i)
    exact ⟨(fieldAt_profileBlock_channel p i (by decide)).trans hedge,
      (fieldAt_profileBlock_channel p i (by decide)).trans hspacing,
      (fieldAt_profileBlock_channel p i (by decide)).trans hquota,
      (fieldAt_profileBlock_channel p i (by decide)).trans hblanking,
      (fieldAt_profileBlock_channel p i (by decide)).trans htrace⟩

/-! ### PROFILE READ (R111 to R113) -/

section
variable {r : Request} {s : State}

theorem readProfile_noProfile (h : payloadByte 0 r = 0xFF) (ha : s.engine.active = none) :
    readProfile r s = (s, .refuse .noProfile) := by
  simp [readProfile, h, ha]

theorem readProfile_active {a : ActiveProfile} (h : payloadByte 0 r = 0xFF) (ha : s.engine.active = some a) :
    readProfile r s = (s, .okWith (activeBody a)) := by
  simp [readProfile, h, ha]

theorem readProfile_none (h : payloadByte 0 r ≠ 0xFF) (hk : slotOf (payloadByte 0 r) = none) :
    readProfile r s = (s, .range slotField) := by
  rw [readProfile, if_neg h, hk]

theorem readProfile_some {k : Fin 4} (h : payloadByte 0 r ≠ 0xFF) (hk : slotOf (payloadByte 0 r) = some k) :
    readProfile r s = (s, .okWith (slotBody k (s.store.slots.get k))) := by
  rw [readProfile, if_neg h, hk]

end

theorem slotByte_eq {b : Byte} {k : Fin 4} (h : b.toNat = k.val) : slotByte k = b := by
  rw [slotByte, ← h, BitVec.ofNat_toNat, BitVec.setWidth_eq]

/-- Settles O42: nothing but the reply is left behind, and the block of the reply is that of the contents read. -/
theorem profileReadShowsContents : Obligations.ProfileReadShowsContents := by
  intro s r rest b hr hcode hp
  have hbyte : payloadByte 0 r = b := payloadByte_zero hp
  refine ⟨fun hall hactive => ?_, fun a hall hactive => ⟨_, profileBlock_shows a.profile, ?_⟩, fun k hk => ?_,
    fun hb hall => ?_⟩
  · exact exec_only_answers (fun _ => rfl) hr hcode (readProfile_noProfile (hbyte.trans hall) hactive)
  · exact exec_only_answers (fun _ => rfl) hr hcode (readProfile_active (hbyte.trans hall) hactive)
  · have hread : exec .profileRead s = .next (s.answeredWith r rest .ok 0 (slotBody k (s.store.slots.get k))) :=
      exec_only_answers (fun _ => rfl) hr hcode
        (readProfile_some (hbyte ▸ slot_ne_all_ones hk) (slotNumber_eq_some hp hk))
    rw [hread, ← slotByte_eq hk]
    refine ⟨fun hslot => ?_, fun rev p hslot => ⟨_, profileBlock_shows p, ?_⟩,
      fun rev p hslot => ⟨_, profileBlock_shows p, ?_⟩⟩ <;> rw [hslot] <;> rfl
  · exact exec_only_answers (fun _ => rfl) hr hcode (readProfile_none (hbyte ▸ hall) (slotNumber_eq_none hp hb))

end Sys2Proof.Machine
end

section
/-! PROOF. The profile check (R102 to R104): a search of a channel set finds its lowest-numbered member that fails, so the
four conditions of Table 6-3 in order are the search the model makes. PROFILE CHECK is settled here. -/

namespace Sys2Proof.Machine

/-! ### The lowest-numbered member of a set that fails (R103) -/

/-- What a search among the twelve channels finds is the lowest-numbered one that passes the test. -/
theorem find?_channels_eq_some_iff {test : Channel → Bool} {i : Channel} :
    channels.find? test = some i ↔ test i = true ∧ ∀ j, j.val < i.val → test j = false := by
  have hchannels : channels = List.ofFn (id : Channel → Channel) := rfl
  rw [hchannels]
  simpa using List.find?_ofFn_eq_some_of_injective (f := id) (p := test) (i := i) Function.injective_id

theorem find?_setMembers_eq_some_iff {set : ChannelSet} {test : Channel → Bool} {i : Channel} :
    (setMembers set).find? test = some i ↔ inSet set i = true ∧ test i = true
      ∧ ∀ j, j.val < i.val → inSet set j = true → test j = false := by
  simp [setMembers, List.find?_filter, find?_channels_eq_some_iff, and_assoc]

theorem find?_setMembers_eq_none_iff {set : ChannelSet} {test : Channel → Bool} :
    (setMembers set).find? test = none ↔ ∀ j, inSet set j = true → test j = false := by
  simp

/-! ### The four conditions (Table 6-3) -/

theorem blankingFails_eq_false_iff {p : Profile} {i : Channel} :
    blankingFails p i = false ↔ (p.chans.get i).blanking.toNat < p.windowLimit.toNat := by
  simp [blankingFails]

theorem spacingFails_eq_true_iff {p : Profile} {i : Channel} : spacingFails p i = true ↔
    1 < (p.chans.get i).quota.toNat
      ∧ p.windowLimit.toNat * p.tickDivisor.toNat ≤ (p.chans.get i).spacing.toNat := by
  simp [spacingFails]

theorem spacingFails_eq_false_iff {p : Profile} {i : Channel} : spacingFails p i = false ↔
    (1 < (p.chans.get i).quota.toNat →
      (p.chans.get i).spacing.toNat < p.windowLimit.toNat * p.tickDivisor.toNat) := by
  simp [spacingFails]

theorem channelByte_toNat (i : Channel) : (channelByte i).toNat = i.val + 1 := by
  fin_cases i <;> rfl

theorem eq_channelByte {b : Byte} {i : Channel} (h : b.toNat = i.val + 1) : b = channelByte i :=
  BitVec.eq_of_toNat_eq (h.trans (channelByte_toNat i).symm)

section
variable {p : Profile}

theorem checkProfile_blanking {i : Channel} (hset : p.channelSet ≠ 0)
    (h2 : (setMembers p.channelSet).find? (blankingFails p) = some i) : checkProfile p = some ⟨2, channelByte i⟩ := by
  rw [checkProfile, if_neg hset, h2]

theorem checkProfile_spacing {i : Channel} (hset : p.channelSet ≠ 0)
    (h2 : (setMembers p.channelSet).find? (blankingFails p) = none)
    (h3 : (setMembers p.channelSet).find? (spacingFails p) = some i) : checkProfile p = some ⟨3, channelByte i⟩ := by
  rw [checkProfile, if_neg hset, h2, h3]

theorem checkProfile_restart (hset : p.channelSet ≠ 0)
    (h2 : (setMembers p.channelSet).find? (blankingFails p) = none)
    (h3 : (setMembers p.channelSet).find? (spacingFails p) = none) :
    checkProfile p = if p.overlap = .restart ∧ p.startSource = .immediate then some ⟨4, 0⟩ else none := by
  rw [checkProfile, if_neg hset, h2, h3]

/-- The first condition that holds, and the channel it names, are what the check finds. -/
theorem checkProfile_of_firstFailure {code channel : Byte} (h : firstFailure p code channel) :
    checkProfile p = some ⟨code, channel⟩ := by
  rcases h with ⟨hset, rfl, rfl⟩ | ⟨hset, rfl, i, hi, hin, hfails, hfirst⟩ | ⟨hset, hpass, h⟩
  · rw [checkProfile, if_pos hset]
  · rw [eq_channelByte hi]
    refine checkProfile_blanking hset (find?_setMembers_eq_some_iff.2 ⟨hin, decide_eq_true hfails, fun j hj hjin => ?_⟩)
    exact blankingFails_eq_false_iff.2 (hfirst j hj hjin)
  · have hblanking : (setMembers p.channelSet).find? (blankingFails p) = none :=
      find?_setMembers_eq_none_iff.2 fun j hj => blankingFails_eq_false_iff.2 (hpass j hj)
    rcases h with ⟨rfl, i, hi, hin, hquota, hfails, hfirst⟩ | ⟨rfl, rfl, hoverlap, hsource, hspaced⟩
    · rw [eq_channelByte hi]
      refine checkProfile_spacing hset hblanking (find?_setMembers_eq_some_iff.2
        ⟨hin, spacingFails_eq_true_iff.2 ⟨hquota, hfails⟩, fun j hj hjin => ?_⟩)
      exact spacingFails_eq_false_iff.2 (hfirst j hj hjin)
    · have hspacing : (setMembers p.channelSet).find? (spacingFails p) = none :=
        find?_setMembers_eq_none_iff.2 fun j hj => spacingFails_eq_false_iff.2 (hspaced j hj)
      rw [checkProfile_restart hset hblanking hspacing, if_pos ⟨hoverlap, hsource⟩]

/-- What the check finds is the first condition that holds. -/
theorem firstFailure_of_checkProfile {f : CheckFailure} (h : checkProfile p = some f) :
    firstFailure p f.code f.channel := by
  by_cases hset : p.channelSet = 0
  · rw [checkProfile, if_pos hset, Option.some.injEq] at h
    subst h
    exact .inl ⟨hset, rfl, rfl⟩
  refine .inr ?_
  cases hblanking : (setMembers p.channelSet).find? (blankingFails p) with
  | some i =>
    rw [checkProfile_blanking hset hblanking, Option.some.injEq] at h
    subst h
    obtain ⟨hin, hfails, hfirst⟩ := find?_setMembers_eq_some_iff.1 hblanking
    exact .inl ⟨hset, rfl, i, channelByte_toNat i, hin, of_decide_eq_true hfails,
      fun j hj hjin => blankingFails_eq_false_iff.1 (hfirst j hj hjin)⟩
  | none =>
    have hpass := find?_setMembers_eq_none_iff.1 hblanking
    refine .inr ⟨hset, fun j hj => blankingFails_eq_false_iff.1 (hpass j hj), ?_⟩
    cases hspacing : (setMembers p.channelSet).find? (spacingFails p) with
    | some i =>
      rw [checkProfile_spacing hset hblanking hspacing, Option.some.injEq] at h
      subst h
      obtain ⟨hin, hfails, hfirst⟩ := find?_setMembers_eq_some_iff.1 hspacing
      obtain ⟨hquota, hnear⟩ := spacingFails_eq_true_iff.1 hfails
      exact .inl ⟨rfl, i, channelByte_toNat i, hin, hquota, hnear,
        fun j hj hjin => spacingFails_eq_false_iff.1 (hfirst j hj hjin)⟩
    | none =>
      rw [checkProfile_restart hset hblanking hspacing, Option.ite_none_right_eq_some, Option.some.injEq] at h
      obtain ⟨⟨hoverlap, hsource⟩, rfl⟩ := h
      exact .inr ⟨rfl, rfl, hoverlap, hsource,
        fun j hj => spacingFails_eq_false_iff.1 (find?_setMembers_eq_none_iff.1 hspacing j hj)⟩

theorem checkProfile_eq_none (h : ∀ code channel, ¬ firstFailure p code channel) : checkProfile p = none :=
  Option.eq_none_iff_forall_ne_some.2 fun f hf => h f.code f.channel (firstFailure_of_checkProfile hf)

end

/-! ### PROFILE CHECK (R96, R102, R104) -/

theorem wrapToOne_eq (x : BitVec 16) : wrapToOne x = if x = 0xFFFF then 1 else x + 1 := rfl

section
variable {r : Request} {s : State} {k : Fin 4} {rev : BitVec 16} {p : Profile}

theorem checkSlot_none (h : slotOf (payloadByte 0 r) = none) : checkSlot r s = (s, .range slotField) := by
  simp [checkSlot, h]

theorem checkSlot_empty (h : slotOf (payloadByte 0 r) = some k) (hk : s.store.slots.get k = .empty) :
    checkSlot r s = (s, .refuse .notReady) := by
  simp [checkSlot, h, hk]

theorem checkSlot_ready (h : slotOf (payloadByte 0 r) = some k) (hk : s.store.slots.get k = .ready rev p) :
    checkSlot r s = (s, .okWith (bytesOf 2 rev)) := by
  simp [checkSlot, h, hk]

theorem checkSlot_fails {f : CheckFailure} (h : slotOf (payloadByte 0 r) = some k)
    (hk : s.store.slots.get k = .draft rev p) (hf : checkProfile p = some f) :
    checkSlot r s = (s, ⟨.checkFailed, f.code, [f.channel]⟩) := by
  simp [checkSlot, h, hk, hf]

theorem checkSlot_passes (h : slotOf (payloadByte 0 r) = some k) (hk : s.store.slots.get k = .draft rev p)
    (hf : checkProfile p = none) :
    checkSlot r s = (setSlot k (.ready (wrapToOne rev) p) s, .okWith (bytesOf 2 (wrapToOne rev))) := by
  simp [checkSlot, h, hk, hf]

end

/-- Settles O43: the check of a DRAFT slot finds the first condition that holds, or none. -/
theorem profileCheckMakesReady : Obligations.ProfileCheckMakesReady := by
  intro s r rest b hr hcode hp
  refine ⟨fun hb => ?_, fun k hk => ?_⟩
  · exact exec_only_answers (fun _ => rfl) hr hcode (checkSlot_none (slotNumber_eq_none hp hb))
  have hslot : slotOf (payloadByte 0 r) = some k := slotNumber_eq_some hp hk
  refine ⟨fun hempty => ?_, fun rev p hready => ?_, fun rev p code channel hdraft hfails => ?_,
    fun rev p new hdraft hpasses hnew => setSlot_answered ?_⟩
  · exact exec_only_answers (fun _ => rfl) hr hcode (checkSlot_empty hslot hempty)
  · exact exec_only_answers (fun _ => rfl) hr hcode (checkSlot_ready hslot hready)
  · exact exec_only_answers (fun _ => rfl) hr hcode (checkSlot_fails hslot hdraft (checkProfile_of_firstFailure hfails))
  · rw [← wrapToOne_eq] at hnew
    subst hnew
    exact exec_answers (t := setSlot k (.ready (wrapToOne rev) p) s) (fun _ => rfl) hr hcode
      (checkSlot_passes hslot hdraft (checkProfile_eq_none hpasses)) rfl

end Sys2Proof.Machine
end

section
/-! PROOF. PROFILE SELECT (R106 to R109): a selection cancelled, refused, made pending, or applied at once in IDLE, where
the request's taking and the applying of the profile do not disturb one another. -/

namespace Sys2Proof.Machine

/-! ### A profile applied in IDLE (R108) -/

theorem applyIdle_popIntake (k : Fin 4) (rev : BitVec 16) (p : Profile) (s : State) :
    applyIdle k rev p (popIntake s) = popIntake (applyIdle k rev p s) :=
  post_popIntake _ (loadProfile k rev p s)

theorem applyIdle_intake (k : Fin 4) (rev : BitVec 16) (p : Profile) (s : State) :
    (applyIdle k rev p s).link.intake = s.link.intake :=
  postEvent_keeps_intake _ _ s.link

/-! ### PROFILE SELECT, case by case -/

section
variable {r : Request} {s : State} {k : Fin 4} {rev : BitVec 16} {p : Profile}

theorem selectProfile_cancels (h : payloadByte 0 r = 0xFF) : selectProfile r s = (selectSlot none s, .okWith [2]) :=
  if_pos h

theorem selectProfile_none (h : payloadByte 0 r ≠ 0xFF) (hk : slotOf (payloadByte 0 r) = none) :
    selectProfile r s = (s, .range slotField) := by
  rw [selectProfile, if_neg h, hk]

theorem selectProfile_notReady (h : payloadByte 0 r ≠ 0xFF) (hk : slotOf (payloadByte 0 r) = some k)
    (hs : (s.store.slots.get k).isReady = false) : selectProfile r s = (s, .refuse .notReady) := by
  rw [selectProfile, if_neg h, hk]
  cases hslot : s.store.slots.get k with
  | empty => simp only [hslot]
  | draft rev p => simp only [hslot]
  | ready rev p => simp [hslot, Slot.isReady] at hs

theorem selectProfile_pends (h : payloadByte 0 r ≠ 0xFF) (hk : slotOf (payloadByte 0 r) = some k)
    (hs : s.store.slots.get k = .ready rev p) (hi : s.engine.state ≠ .idle) :
    selectProfile r s = (selectSlot (some k) s, .okWith [0]) := by
  rw [selectProfile, if_neg h, hk]
  simp [hs, hi]

theorem selectProfile_applies (h : payloadByte 0 r ≠ 0xFF) (hk : slotOf (payloadByte 0 r) = some k)
    (hs : s.store.slots.get k = .ready rev p) (hi : s.engine.state = .idle) :
    selectProfile r s = (applyIdle k rev p s, .okWith [1]) := by
  rw [selectProfile, if_neg h, hk]
  simp [hs, hi]

end

/-- Settles O44: the number is NONE, names no slot, or names one that is READY or not; a READY slot is applied in IDLE
and made pending elsewhere. -/
theorem profileSelectActs : Obligations.ProfileSelectActs := by
  refine ⟨fun s r rest b hr hcode hp => ?_, fun s r rest b k rev p hr hcode hp hk hready hidle => ?_⟩
  · have hbyte : payloadByte 0 r = b := payloadByte_zero hp
    refine ⟨fun hnone => ?_, fun hb hnone => ?_, fun k hk => ?_⟩
    · exact exec_answers (t := selectSlot none s) (fun _ => rfl) hr hcode
        (selectProfile_cancels (hbyte.trans hnone)) rfl
    · exact exec_only_answers (fun _ => rfl) hr hcode (selectProfile_none (hbyte ▸ hnone) (slotNumber_eq_none hp hb))
    have hnamed : payloadByte 0 r ≠ 0xFF := hbyte ▸ slot_ne_all_ones hk
    have hslot : slotOf (payloadByte 0 r) = some k := slotNumber_eq_some hp hk
    have hrefused : (s.store.slots.get k).isReady = false →
        exec .profileSelect s = .next (s.answeredWith r rest .notReady 0 []) := fun hs =>
      exec_only_answers (fun _ => rfl) hr hcode (selectProfile_notReady hnamed hslot hs)
    refine ⟨fun hempty => hrefused (by rw [hempty]; rfl), fun rev p hdraft => hrefused (by rw [hdraft]; rfl),
      fun rev p hready hidle => ?_⟩
    exact exec_answers (t := selectSlot (some k) s) (fun _ => rfl) hr hcode
      (selectProfile_pends hnamed hslot hready hidle) rfl
  · have happlied : selectProfile r (popIntake s) = (popIntake (applyIdle k rev p s), .okWith [1]) := by
      rw [selectProfile_applies (s := popIntake s) (payloadByte_zero hp ▸ slot_ne_all_ones hk) (slotNumber_eq_some hp hk)
        hready hidle, applyIdle_popIntake]
    exact ⟨_, exec_answers (fun _ => rfl) hr hcode happlied (applyIdle_intake k rev p s),
      recondition_linesUnder p s.inputs, rfl, rfl⟩

end Sys2Proof.Machine
end

section
/-! PROOF. QUEUE STATUS (R127, Table 11-5): its fixed fields, each read back at its offset. A count is read back modulo its
width, and a sound queue's pools bound every count below it. -/

namespace Sys2Proof.Machine

/-! ### A count at an offset (R171) -/

/-- A count whose bytes stand first is read back modulo their width. -/
theorem fieldAt_littleEndian (k n : Nat) (l : List Byte) : fieldAt (littleEndian k n ++ l) 0 k = n % 256 ^ k := by
  rw [fieldAt_append_left l (by simp), fieldAt, List.drop_zero, List.take_of_length_le (by simp),
    ofLittleEndian_littleEndian]

theorem fieldAt_littleEndian_append (k n : Nat) (l : List Byte) {offset : Nat} (width : Nat) (h : k ≤ offset) :
    fieldAt (littleEndian k n ++ l) offset width = fieldAt l (offset - k) width := by
  simpa using fieldAt_append_right (a := littleEndian k n) (l := l) width (by simpa using h)

theorem countByte_toNat (n : Nat) : (countByte n).toNat = n % 256 := BitVec.toNat_ofNat n 8

/-! ### The QUEUE STATUS body (Table 11-5) -/

section
variable (q : ResultQueue) (occupied : Bool)

theorem length_queueStatusBody : (queueStatusBody q occupied).length = 35 := by
  simp [queueStatusBody]

/-- The counts of records and the occupancy of the pools, modulo the width of each. -/
theorem queueStatusBody_shows_pools :
    fieldAt (queueStatusBody q occupied) 0 1 = q.entries.length % 256
      ∧ fieldAt (queueStatusBody q occupied) 1 1 = (q.entries.filter (·.delivered)).length % 256
      ∧ fieldAt (queueStatusBody q occupied) 2 1 = q.used.records % 256
      ∧ fieldAt (queueStatusBody q occupied) 3 2 = q.used.entries % 65536
      ∧ fieldAt (queueStatusBody q occupied) 5 2 = q.used.traces % 65536 := by
  simp [queueStatusBody, fieldAt_cons, fieldAt_littleEndian, fieldAt_littleEndian_append, countByte_toNat]

/-- The cycle numbers at the two ends, and the counts of losses and admissions. -/
theorem queueStatusBody_shows_words :
    fieldAt (queueStatusBody q occupied) 8 4 = ((q.entries.head?.map fun e : QueueEntry => e.record.number).getD 0).toNat
      ∧ fieldAt (queueStatusBody q occupied) 12 4 = ((q.entries.getLast?.map fun e : QueueEntry => e.record.number).getD 0).toNat
      ∧ fieldAt (queueStatusBody q occupied) 16 2 = q.pendingLoss.toNat
      ∧ fieldAt (queueStatusBody q occupied) 18 8 = q.totalAdmitted.toNat
      ∧ fieldAt (queueStatusBody q occupied) 26 8 = q.totalLost.toNat := by
  simp [queueStatusBody, fieldAt_cons, fieldAt_littleEndian_append, fieldAt_bytesOf_append, fieldAt_bytesOf]

theorem queueStatusBody_presence : (queueStatusBody q occupied).getD 7 0xFF = flagByte (!q.entries.isEmpty) := rfl

theorem queueStatusBody_occupied : (queueStatusBody q occupied).getD 34 0xFF = flagByte occupied := rfl

/-- An empty queue has no ends: the flag and both numbers are sent as zero (R171). -/
theorem queueStatusBody_empty (h : q.entries = []) :
    ((queueStatusBody q occupied).drop 7).take 9 = [0, 0, 0, 0, 0, 0, 0, 0, 0] := by
  rw [queueStatusBody, h]
  rfl

end

/-- A sound queue's counts are those its pools allow, so each fits its field (R116). -/
theorem counts_le_of_sound {q : ResultQueue} (h : q.sound) :
    q.entries.length ≤ 24 ∧ (q.entries.filter (·.delivered)).length ≤ 24 ∧ q.used.records ≤ 24 ∧ q.used.entries ≤ 160
      ∧ q.used.traces ≤ 192 := by
  obtain ⟨hrecords, -, -, hcapacity, hentries, htraces, -, -⟩ := h
  have hlength : q.entries.length ≤ 24 := hrecords ▸ hcapacity
  exact ⟨hlength, (List.length_filter_le _ _).trans hlength, hcapacity, hentries, htraces⟩

/-- Settles O52: nothing but the reply is left behind, and every count of a sound queue fits the field it is sent in. -/
theorem queueStatusCounts : Obligations.QueueStatusCounts := by
  intro s r rest hr hcode hsound
  obtain ⟨hlength, hdelivered, hrecords, hentries, htraces⟩ := counts_le_of_sound hsound
  obtain ⟨hcount, hmarked, hused, hchannels, htimes⟩ :=
    queueStatusBody_shows_pools s.queue s.engine.closeBuffer.isSome
  obtain ⟨holdest, hnewest, hpending, hadmitted, hlost⟩ :=
    queueStatusBody_shows_words s.queue s.engine.closeBuffer.isSome
  refine ⟨queueStatusBody s.queue s.engine.closeBuffer.isSome,
    exec_only_answers (a := .okWith _) (fun _ => rfl) hr hcode rfl,
    length_queueStatusBody _ _, hcount.trans (Nat.mod_eq_of_lt (by omega)), hmarked.trans (Nat.mod_eq_of_lt (by omega)),
    hused.trans (Nat.mod_eq_of_lt (by omega)), hchannels.trans (Nat.mod_eq_of_lt (by omega)),
    htimes.trans (Nat.mod_eq_of_lt (by omega)), queueStatusBody_empty _ _, fun e he => ⟨?_, holdest.trans ?_⟩,
    fun e he => hnewest.trans ?_, hpending, hadmitted, hlost, ?_⟩
  · have hsome : s.queue.entries ≠ [] := fun hnil => by simp [hnil] at he
    rw [queueStatusBody_presence, List.isEmpty_eq_false_iff.2 hsome]
    rfl
  · rw [Option.mem_def.1 he]
    rfl
  · rw [Option.mem_def.1 he]
    rfl
  · rw [queueStatusBody_occupied]
    cases s.engine.closeBuffer <;> rfl

end Sys2Proof.Machine
end

section
/-! PROOF. RESULT READ (R123, R124, Tables 11-5, 11-9 and 11-10): the fixed fields of a record and of a channel entry, each
read back at its offset; the times and the trace of an entry, present together or not as a sound entry has them; and the
entry at a position marked delivered. -/

namespace Sys2Proof.Machine

/-! ### A channel entry (Table 11-10) -/

/-- The nine bytes every channel entry begins with. -/
def entryHead (e : ChannelEntry) : List Byte :=
  [channelByte e.channel, presenceByte e, e.outcome.code, e.quota, e.edgeCount, e.early, e.blanked, e.rejected, e.trailing]

/-- The first-edge and last-edge ticks, sent when present. -/
def timeBytes (e : ChannelEntry) : List Byte := optionalTicks e.firstTicks ++ optionalTicks e.lastTicks

/-- The trace list, empty when absent. -/
def traceBytes (e : ChannelEntry) : List Byte := ((e.trace.getD []).map (bytesOf 4)).flatten

theorem entryBytes_eq (e : ChannelEntry) : entryBytes e = entryHead e ++ (timeBytes e ++ traceBytes e) := by
  simp only [entryBytes, entryHead, timeBytes, traceBytes, List.append_assoc]

theorem length_entryHead (e : ChannelEntry) : (entryHead e).length = 9 := rfl

theorem length_traceBytes (e : ChannelEntry) : (traceBytes e).length = 4 * (e.trace.getD []).length := by
  simp [traceBytes, Function.comp_def, Nat.mul_comm]

/-- The two times of a sound entry are both absent or both present (R72). -/
theorem times_cases {edgeCount : Byte} {first last : Option Ticks} {latest : Ticks}
    (h : timesSound edgeCount first last latest) :
    first = none ∧ last = none ∨ ∃ a b, first = some a ∧ last = some b := by
  obtain ⟨hfirst, hlast, -, -⟩ := h
  have hboth : first.isSome = true ↔ last.isSome = true := hfirst.trans hlast.symm
  cases first <;> cases last <;> simp_all

theorem length_timeBytes {e : ChannelEntry} {closeTicks : Ticks} (h : e.sound closeTicks) :
    (timeBytes e).length = if e.firstTicks = none then 0 else 8 := by
  obtain ⟨-, -, htimes, -⟩ := h
  rcases times_cases htimes with ⟨hfirst, hlast⟩ | ⟨a, b, hfirst, hlast⟩ <;>
    simp [timeBytes, hfirst, hlast, optionalTicks]

/-- The trace of a sound entry holds at most 8 times, so its length fits the presence byte (R66). -/
theorem length_trace_le {e : ChannelEntry} {closeTicks : Ticks} (h : e.sound closeTicks) :
    (e.trace.getD []).length ≤ 8 := by
  obtain ⟨-, -, -, htrace⟩ := h
  cases hl : e.trace with
  | none => simp
  | some l => exact (htrace l hl).1

/-- The three parts of the presence byte occupy different bits. -/
theorem presence_bits (n : Nat) (h : n ≤ 8) :
    ((0x02 : Byte) ||| BitVec.ofNat 8 (16 * n)).toNat = 2 + 16 * n
      ∧ ((0x01 : Byte) ||| (0x02 ||| BitVec.ofNat 8 (16 * n))).toNat = 3 + 16 * n := by
  interval_cases n <;> decide

theorem presenceByte_toNat {e : ChannelEntry} (h : (e.trace.getD []).length ≤ 8) :
    (presenceByte e).toNat = (if e.firstTicks = none then 0 else 1) + (if e.trace = none then 0 else 2)
      + 16 * (e.trace.getD []).length := by
  obtain ⟨htraced, hboth⟩ := presence_bits _ h
  unfold presenceByte
  cases hl : e.trace with
  | none => cases e.firstTicks <;> simp
  | some l =>
    simp only [hl, Option.getD_some] at htraced hboth
    cases e.firstTicks with
    | none => simpa using htraced
    | some a => simpa using hboth

/-- The nine fixed fields, each in its place, whatever follows. -/
theorem entryHead_shows (e : ChannelEntry) (l : List Byte) :
    fieldAt (entryHead e ++ l) 0 1 = (channelByte e.channel).toNat ∧ fieldAt (entryHead e ++ l) 1 1 = (presenceByte e).toNat
      ∧ fieldAt (entryHead e ++ l) 2 1 = e.outcome.code.toNat ∧ fieldAt (entryHead e ++ l) 3 1 = e.quota.toNat
      ∧ fieldAt (entryHead e ++ l) 4 1 = e.edgeCount.toNat ∧ fieldAt (entryHead e ++ l) 5 1 = e.early.toNat
      ∧ fieldAt (entryHead e ++ l) 6 1 = e.blanked.toNat ∧ fieldAt (entryHead e ++ l) 7 1 = e.rejected.toNat
      ∧ fieldAt (entryHead e ++ l) 8 1 = e.trailing.toNat := by
  simp [entryHead, fieldAt_cons]

/-- Both times, when present, follow the fixed fields. -/
theorem entryBytes_shows_times {e : ChannelEntry} {a b : Ticks} (ha : e.firstTicks = some a) (hb : e.lastTicks = some b) :
    fieldAt (entryBytes e) 9 4 = a.toNat ∧ fieldAt (entryBytes e) 13 4 = b.toNat := by
  have htimes : timeBytes e = bytesOf 4 a ++ bytesOf 4 b := by rw [timeBytes, ha, hb, optionalTicks, optionalTicks]
  have hhead : ∀ {k : Nat}, 9 ≤ k → ∀ l, fieldAt (entryHead e ++ l) k 4 = fieldAt l (k - 9) 4 := fun hk _ =>
    fieldAt_append_right (a := entryHead e) 4 hk
  rw [entryBytes_eq, hhead (by decide), hhead (by decide), htimes]
  simp [fieldAt_bytesOf, fieldAt_bytesOf_append]

/-- A time of the trace list stands behind the fixed fields and the times sent. -/
theorem entryBytes_shows_trace {e : ChannelEntry} {j : Nat} {t : Ticks} (h : (e.trace.getD [])[j]? = some t) :
    fieldAt (entryBytes e) (9 + (timeBytes e).length + 4 * j) 4 = t.toNat := by
  have hskip : 9 + (timeBytes e).length + 4 * j - (entryHead e ++ timeBytes e).length = 4 * j + 0 := by
    rw [List.length_append, length_entryHead]
    omega
  rw [entryBytes_eq, ← List.append_assoc, fieldAt_append_right 4 (by rw [List.length_append, length_entryHead]; omega), hskip,
    traceBytes, fieldAt_flatten (length_bytesOf 4) (by decide) h]
  simpa using fieldAt_bytesOf (k := 4) t [] (by decide)

/-- The bytes of a sound entry show it. -/
theorem entryBytes_shows {e : ChannelEntry} {closeTicks : Ticks} (h : e.sound closeTicks) : entryShows (entryBytes e) e := by
  have htimes := length_timeBytes h
  have htrace : ∀ (j : Nat) (t : Ticks), (e.trace.getD [])[j]? = some t →
      fieldAt (entryBytes e) ((if e.firstTicks = none then 9 else 17) + 4 * j) 4 = t.toNat := by
    intro j t hj
    have hplace : (if e.firstTicks = none then 9 else 17) = 9 + (timeBytes e).length := by
      rw [htimes]
      split <;> rfl
    rw [hplace]
    exact entryBytes_shows_trace hj
  have hlength : (entryBytes e).length
      = 9 + (if e.firstTicks = none then 0 else 8) + 4 * (e.trace.getD []).length := by
    rw [entryBytes_eq, List.length_append, List.length_append, length_entryHead, htimes, length_traceBytes, Nat.add_assoc]
  obtain ⟨hchannel, hpresence, houtcome, hfixed⟩ := entryHead_shows e (timeBytes e ++ traceBytes e)
  rw [← entryBytes_eq] at hchannel hpresence houtcome hfixed
  obtain ⟨hquota, hcount, hearly, hblanked, hrejected, htrailing⟩ := hfixed
  exact ⟨hlength, hchannel.trans (channelByte_toNat e.channel), hpresence.trans (presenceByte_toNat (length_trace_le h)),
    houtcome.trans (by cases e.outcome <;> rfl), hquota, hcount, hearly, hblanked, hrejected, htrailing,
    fun _ _ ha hb => entryBytes_shows_times ha hb, htrace⟩

/-! ### A cycle record (Table 11-9) -/

/-- The 36 bytes every record begins with. -/
def recordHead (r : CycleRecord) : List Byte :=
  bytesOf 4 r.number ++ bytesOf 2 r.run ++ bytesOf 2 r.index ++ [slotByte r.slot] ++ bytesOf 2 r.revision
    ++ [r.source.code] ++ bytesOf 6 r.stamp ++ bytesOf 2 r.divisor ++ bytesOf 4 r.windowLimit
    ++ [r.outcome.code, r.outcome.reasonCode] ++ bytesOf 4 r.closeTicks ++ [r.overlaps] ++ bytesOf 2 r.missedBefore
    ++ bytesOf 2 (r.lostBefore.getD 0) ++ [countByte r.entries.length]

theorem recordBytes_eq (r : CycleRecord) : recordBytes r = recordHead r ++ (r.entries.map entryBytes).flatten := rfl

theorem length_recordHead (r : CycleRecord) : (recordHead r).length = 36 := by
  simp [recordHead]

theorem slotByte_toNat (k : Fin 4) : (slotByte k).toNat = k.val := by
  fin_cases k <;> rfl

/-- The first nine fixed fields, latched at the start, each in its place, whatever follows. -/
theorem recordHead_shows_start (r : CycleRecord) (l : List Byte) :
    fieldAt (recordHead r ++ l) 0 4 = r.number.toNat ∧ fieldAt (recordHead r ++ l) 4 2 = r.run.toNat
      ∧ fieldAt (recordHead r ++ l) 6 2 = r.index.toNat ∧ fieldAt (recordHead r ++ l) 8 1 = (slotByte r.slot).toNat
      ∧ fieldAt (recordHead r ++ l) 9 2 = r.revision.toNat ∧ fieldAt (recordHead r ++ l) 11 1 = r.source.code.toNat
      ∧ fieldAt (recordHead r ++ l) 12 6 = r.stamp.toNat ∧ fieldAt (recordHead r ++ l) 18 2 = r.divisor.toNat
      ∧ fieldAt (recordHead r ++ l) 20 4 = r.windowLimit.toNat := by
  simp [recordHead, fieldAt_cons, fieldAt_bytesOf_append, fieldAt_bytesOf]

/-- The fixed fields of the close and the admission, each in its place, whatever follows. -/
theorem recordHead_shows_close (r : CycleRecord) (l : List Byte) :
    fieldAt (recordHead r ++ l) 24 1 = r.outcome.code.toNat ∧ fieldAt (recordHead r ++ l) 25 1 = r.outcome.reasonCode.toNat
      ∧ fieldAt (recordHead r ++ l) 26 4 = r.closeTicks.toNat ∧ fieldAt (recordHead r ++ l) 30 1 = r.overlaps.toNat
      ∧ fieldAt (recordHead r ++ l) 31 2 = r.missedBefore.toNat
      ∧ fieldAt (recordHead r ++ l) 33 2 = (r.lostBefore.getD 0).toNat
      ∧ fieldAt (recordHead r ++ l) 35 1 = r.entries.length % 256 := by
  simp [recordHead, fieldAt_cons, fieldAt_bytesOf_append, fieldAt_bytesOf, countByte_toNat]

/-- A sound record has at most one entry for each channel. -/
theorem length_entries_le {r : CycleRecord} (h : r.sound) : r.entries.length ≤ 12 := by
  obtain ⟨-, -, hascending, -⟩ := h
  have hdistinct : (r.entries.map ChannelEntry.channel).Nodup :=
    hascending.imp fun hlt heq => by simp [heq] at hlt
  simpa using hdistinct.length_le_card

/-- The bytes of a sound record show it. -/
theorem recordBytes_shows {r : CycleRecord} (h : r.sound) : recordShows (recordBytes r) r := by
  have hcount := length_entries_le h
  obtain ⟨-, -, -, hentries, -⟩ := h
  obtain ⟨hnumber, hrun, hindex, hslot, hrevision, hsource, hstamp, hdivisor, hlimit⟩ :=
    recordHead_shows_start r (r.entries.map entryBytes).flatten
  obtain ⟨houtcome, hreason, hclose, hoverlaps, hmissed, hlost, hlength⟩ :=
    recordHead_shows_close r (r.entries.map entryBytes).flatten
  refine ⟨hnumber, hrun, hindex, hslot.trans (slotByte_toNat r.slot), hrevision, hsource.trans ?_, hstamp, hdivisor, hlimit,
    houtcome.trans ?_, hreason.trans ?_, hclose, hoverlaps, hmissed, hlost,
    hlength.trans (Nat.mod_eq_of_lt (by omega)), r.entries.map entryBytes, ?_, ?_⟩
  · cases r.source <;> rfl
  · cases r.outcome <;> rfl
  · rcases r.outcome with _ | _ | _ | _ <;> rfl
  · rw [recordBytes_eq, ← length_recordHead r, List.drop_left]
  · rw [List.forall₂_map_left_iff, List.forall₂_same]
    exact fun e he => entryBytes_shows (hentries e he)

/-! ### RESULT READ (R123, R124) -/

/-- The position a request names, 0 when omitted. -/
theorem readPosition_eq {r : Request} {pos : Byte} (h : r.payload = [pos] ∨ (r.payload = [] ∧ pos = 0)) :
    readPosition r = pos.toNat := by
  rcases h with h | ⟨h, rfl⟩ <;> simp [readPosition, payloadByte, h]

/-- The entry behind others becomes delivered. -/
theorem markDelivered_append {q : ResultQueue} {before after : List QueueEntry} {e : QueueEntry}
    (h : q.entries = before ++ e :: after) :
    markDelivered before.length q = { q with entries := before ++ { e with delivered := true } :: after } := by
  rw [markDelivered, h, List.modify_eq_take_cons_drop (by simp), List.take_left, List.drop_length_add_append]
  simp

section
variable {r : Request} {s : State}

theorem not_capacity_le (h : readPosition r ≤ 23) : ¬ Config.recordCapacity ≤ readPosition r :=
  Nat.not_le.2 (Nat.lt_succ_of_le h)

theorem readResult_range (h : 23 < readPosition r) : readResult r s = (s, .range positionField) :=
  if_pos h

theorem readResult_empty (h : readPosition r ≤ 23) (hl : s.queue.entries.length ≤ readPosition r) :
    readResult r s = (s, .refuse .empty) := by
  have hnone : s.queue.at (readPosition r) = none := List.getElem?_eq_none hl
  rw [readResult, if_neg (not_capacity_le h), hnone]

theorem readResult_delivers {before after : List QueueEntry} {e : QueueEntry} (h : readPosition r ≤ 23)
    (he : s.queue.entries = before ++ e :: after) (hl : before.length = readPosition r) :
    readResult r s
      = ({ s with queue := { s.queue with entries := before ++ { e with delivered := true } :: after } },
        .okWith (flagByte e.delivered :: recordBytes e.record)) := by
  have hsome : s.queue.at (readPosition r) = some e := by simp [ResultQueue.at, he, ← hl]
  rw [readResult, if_neg (not_capacity_le h), hsome, ← hl, markDelivered_append he]

end

/-- Settles O49: the position lies above 23, past the end, or at an entry, whose record's bytes show it when it is
sound. -/
theorem resultReadDelivers : Obligations.ResultReadDelivers := by
  intro s r rest pos hr hcode hp
  have hpos : readPosition r = pos.toNat := readPosition_eq hp
  rw [← hpos]
  refine ⟨fun hrange => ?_, fun hpos hend => ?_, fun before e after hpos he hl =>
    ⟨recordBytes e.record, recordBytes_shows, ?_⟩⟩
  · exact exec_only_answers (fun _ => rfl) hr hcode (readResult_range hrange)
  · exact exec_only_answers (fun _ => rfl) hr hcode (readResult_empty (s := popIntake s) hpos hend)
  · exact exec_answers
      (t := { s with queue := { s.queue with entries := before ++ { e with delivered := true } :: after } })
      (fun _ => rfl) hr hcode (readResult_delivers (s := popIntake s) hpos he hl) rfl

end Sys2Proof.Machine
end

section
/-! PROOF. RESULT ACK (R125, R126): the position of the number named, the oldest undelivered record of the span, the release
of the span, and the offer to a held record (R47, R122). The after-close sequence leaves the Result Queue and the close
buffer alone, so the reply tells what the offer left. -/

namespace Sys2Proof.Machine

/-! ### The after-close sequence leaves the queue and the close buffer alone -/

@[simp] theorem edgesWithin_queue (s : State) : (edgesWithin s).queue = s.queue := by
  unfold edgesWithin
  split <;> rfl

@[simp] theorem enterArmed_queue (s : State) : (enterArmed s).queue = s.queue := by
  unfold enterArmed
  simp only
  split <;> simp

@[simp] theorem enterArmed_closeBuffer (s : State) : (enterArmed s).engine.closeBuffer = s.engine.closeBuffer := by
  unfold enterArmed
  simp only
  split <;> simp

@[simp] theorem boundarySequence_queue (s : State) : (boundarySequence s).state.queue = s.queue := by
  unfold boundarySequence
  split <;> simp

@[simp] theorem boundarySequence_closeBuffer (s : State) :
    (boundarySequence s).state.engine.closeBuffer = s.engine.closeBuffer := by
  unfold boundarySequence
  split <;> simp

section
variable (outcome : CycleOutcome) (restart : Option StartTaken) (s : State)

/-- Each branch of the sequence ends the run, takes a start, begins a holdoff or reaches an arming boundary. -/
theorem afterCloseSequence_keeps_queue_closeBuffer :
    (afterCloseSequence outcome restart s).state.queue = s.queue
      ∧ (afterCloseSequence outcome restart s).state.engine.closeBuffer = s.engine.closeBuffer := by
  unfold afterCloseSequence
  simp only
  split
  · exact ⟨rfl, rfl⟩
  split
  · exact ⟨rfl, rfl⟩
  cases restart with
  | some src => exact ⟨rfl, rfl⟩
  | none =>
    simp only
    split
    · exact ⟨rfl, rfl⟩
    · simp

@[simp] theorem afterClose_queue : (afterClose outcome restart s).queue = s.queue :=
  (afterCloseSequence_keeps_queue_closeBuffer outcome restart s).1

@[simp] theorem afterClose_closeBuffer : (afterClose outcome restart s).engine.closeBuffer = s.engine.closeBuffer :=
  (afterCloseSequence_keeps_queue_closeBuffer outcome restart s).2

end

/-! ### The offer to a held record (R47, R122) -/

section
variable {s : State} {held : ClosedRecord}

theorem offerHeld_none (h : s.engine.closeBuffer = none) : offerHeld s = s := by
  rw [offerHeld, h]

theorem offerHeld_refused (h : s.engine.closeBuffer = some held) (hr : ¬ s.queue.hasRoom held.cost held.record.number) :
    offerHeld s = s := by
  rw [offerHeld, h]
  exact if_neg fun hf => hr ((fits_iff_hasRoom _ _).1 hf)

theorem offerHeld_admitted (h : s.engine.closeBuffer = some held) (hr : s.queue.hasRoom held.cost held.record.number) :
    offerHeld s = afterClose held.record.outcome none { s with
      queue := s.queue.plus held.record held.cost held.created
      engine := { s.engine with closeBuffer := none }
      link := postEvent s.now (.stall true held.record.number) s.link } := by
  rw [offerHeld, h]
  exact if_pos ((fits_iff_hasRoom _ _).2 hr)

end

/-- The offer and the taking of a request do not disturb one another. -/
theorem offerHeld_popIntake (s : State) : offerHeld (popIntake s) = popIntake (offerHeld s) := by
  cases h : s.engine.closeBuffer with
  | none => rw [offerHeld_none h, offerHeld_none (s := popIntake s) h]
  | some held =>
    by_cases hr : s.queue.hasRoom held.cost held.record.number
    · rw [offerHeld_admitted h hr, offerHeld_admitted (s := popIntake s) h hr, ← afterClose_popIntake]
      have hpost := congrArg State.link (post_popIntake (.stall true held.record.number) s)
      simp only [State.post_link] at hpost
      rw [hpost]
      rfl
    · rw [offerHeld_refused h hr, offerHeld_refused (s := popIntake s) h hr]

theorem offerHeld_intake (s : State) : (offerHeld s).link.intake = s.link.intake := by
  unfold offerHeld
  split
  · rfl
  · split
    · simp
    · rfl

/-! ### The record named, and the span (R125) -/

theorem ackNumber_toNat {r : Request} {n0 n1 n2 n3 : Byte} (h : r.payload = [n0, n1, n2, n3]) :
    (ackNumber r).toNat = n0.toNat + 256 * n1.toNat + 65536 * n2.toNat + 16777216 * n3.toNat := by
  simp only [ackNumber, h, ofLittleEndian, BitVec.toNat_ofNat]
  omega

section
variable {q : ResultQueue} {n : BitVec 32}

theorem position_eq_none (h : ∀ e ∈ q.entries, e.record.number ≠ n) : q.position n = none :=
  List.findIdx?_eq_none_iff.2 fun e he => decide_eq_false (h e he)

/-- A number that none of the first records carries is found among the others. -/
theorem position_append {before rest : List QueueEntry} (hq : q.entries = before ++ rest)
    (hb : ∀ w ∈ before, w.record.number ≠ n) (hr : ∃ e ∈ rest, e.record.number = n) :
    ∃ m, q.position n = some (before.length + m) := by
  have hbefore : before.findIdx? (fun e => decide (e.record.number = n)) = none :=
    List.findIdx?_eq_none_iff.2 fun w hw => decide_eq_false (hb w hw)
  obtain ⟨e, he, hn⟩ := hr
  have hrest : (rest.findIdx? fun e => decide (e.record.number = n)).isSome = true := by
    rw [List.findIdx?_isSome, List.any_eq_true]
    exact ⟨e, he, decide_eq_true hn⟩
  obtain ⟨m, hm⟩ := Option.isSome_iff_exists.1 hrest
  exact ⟨m, by rw [ResultQueue.position, hq, List.findIdx?_append, hbefore, hm, Nat.add_comm]; rfl⟩

/-- The first record that carries a number is found. -/
theorem position_eq_length {before after : List QueueEntry} {e : QueueEntry} (hq : q.entries = before ++ e :: after)
    (hb : ∀ w ∈ before, w.record.number ≠ e.record.number) : q.position e.record.number = some before.length := by
  have hbefore : before.findIdx? (fun w => decide (w.record.number = e.record.number)) = none :=
    List.findIdx?_eq_none_iff.2 fun w hw => decide_eq_false (hb w hw)
  rw [ResultQueue.position, hq, List.findIdx?_append, hbefore, List.findIdx?_cons, if_pos (decide_eq_true rfl)]
  simp

end

/-- The records up to and including the one behind the first ones. -/
theorem take_length_succ {before after : List QueueEntry} {e : QueueEntry} :
    (before ++ e :: after).take (before.length + 1) = before ++ [e] :=
  List.take_length_add_append 1

/-- The oldest undelivered record of a span is the first one behind delivered records. -/
theorem find?_undelivered {delivered rest : List QueueEntry} {first : QueueEntry} {m : Nat}
    (hd : ∀ e ∈ delivered, e.delivered = true) (hf : first.delivered = false) :
    ((delivered ++ first :: rest).take (delivered.length + m + 1)).find? (fun e => !e.delivered) = some first := by
  have hnone : delivered.find? (fun e => !e.delivered) = none := List.find?_eq_none.2 fun e he => by simp [hd e he]
  rw [Nat.add_assoc, List.take_length_add_append, List.find?_append, hnone, List.take_succ_cons, List.find?_cons]
  simp [hf]

/-! ### RESULT ACK, case by case (R125, R126) -/

section
variable {r : Request} {s : State}

theorem ackResults_unknown (h : s.queue.position (ackNumber r) = none) :
    ackResults r s = (s, .refuse .unknownCycle) := by
  rw [ackResults, h]

theorem ackResults_undelivered {n : Nat} {e : QueueEntry} (h : s.queue.position (ackNumber r) = some n)
    (hf : (s.queue.entries.take (n + 1)).find? (fun e => !e.delivered) = some e) :
    ackResults r s = (s, ⟨.undelivered, 0, bytesOf 4 e.record.number⟩) := by
  simp only [ackResults, h, hf]

/-- A span of delivered records is released, and the room offered to a held record. -/
theorem ackResults_releases {n : Nat} {t u : State} (h : s.queue.position (ackNumber r) = some n)
    (hd : ∀ e ∈ s.queue.entries.take (n + 1), e.delivered = true)
    (ht : { s with queue := releaseRecords (n + 1) s.queue } = t) (hu : offerHeld t = u) :
    ackResults r s
      = (u, ackAnswer (n + 1) (s.engine.closeBuffer.isSome && u.engine.closeBuffer.isNone) u.queue) := by
  have hnone : (s.queue.entries.take (n + 1)).find? (fun e => !e.delivered) = none :=
    List.find?_eq_none.2 fun e he => by simp [hd e he]
  simp only [ackResults, h, hnone, ht, hu]

end

/-- The reply's payload tells the number removed, whether a held record was admitted, and the oldest record left. -/
theorem ackAnswer_eq (removed : Nat) (admitted : Bool) (q : ResultQueue) :
    ackAnswer removed admitted q = .okWith (ackReply removed admitted q.entries) := by
  cases h : q.entries <;> cases admitted <;> simp [ackAnswer, ackReply, h, countByte, flagByte, bytesOf]

/-- Settles O50: an unknown number has no position; otherwise the span reaches the first undelivered record. -/
theorem resultAckIsTested : Obligations.ResultAckIsTested := by
  intro s r rest n0 n1 n2 n3 n hr hcode hp hn
  have hnumber : (ackNumber r).toNat = n := (ackNumber_toNat hp).trans hn.symm
  have hne : ∀ {e : QueueEntry}, e.record.number.toNat ≠ n → e.record.number ≠ ackNumber r := fun h heq =>
    h (heq ▸ hnumber)
  refine ⟨fun hunknown => ?_, fun delivered first between after hq hd hfirst hspan => ?_⟩
  · exact exec_only_answers (fun _ => rfl) hr hcode
      (ackResults_unknown (s := popIntake s) (position_eq_none fun e he => hne (hunknown e he)))
  · obtain ⟨e, he, hen⟩ := hspan
    have hrest : ∃ e ∈ first :: (between ++ after), e.record.number = ackNumber r :=
      ⟨e, List.mem_append_left after he, BitVec.eq_of_toNat_eq (hen.trans hnumber.symm)⟩
    obtain ⟨m, hm⟩ := position_append hq (fun w hw => hne (hd w hw).2) hrest
    have holdest := find?_undelivered (rest := between ++ after) (m := m) (fun w hw => (hd w hw).1) hfirst
    rw [← hq] at holdest
    exact exec_only_answers (fun _ => rfl) hr hcode (ackResults_undelivered (s := popIntake s) hm holdest)

/-- A RESULT ACK of delivered records leaves what the offer leaves, and its answer. -/
theorem exec_resultAck_releases {s t : State} {r : Request} {rest : List Request} {n : Nat} {freed : ResultQueue}
    (hr : s.carriesOut r rest) (hc : r.code = 0x12) (h : s.queue.position (ackNumber r) = some n)
    (hd : ∀ e ∈ s.queue.entries.take (n + 1), e.delivered = true) (hq : releaseRecords (n + 1) s.queue = freed)
    (ht : offerHeld { s with queue := freed } = t) :
    exec .resultAck s = .next (t.answeredWith r rest .ok 0
      (ackReply (n + 1) (s.engine.closeBuffer.isSome && t.engine.closeBuffer.isNone) t.queue.entries)) := by
  have hoffer : offerHeld (popIntake { s with queue := freed }) = popIntake t := by rw [offerHeld_popIntake, ht]
  have hstate : { popIntake s with queue := releaseRecords (n + 1) s.queue } = popIntake { s with queue := freed } := by
    rw [hq]
    rfl
  have hack := ackResults_releases (s := popIntake s) h hd hstate hoffer
  rw [ackAnswer_eq] at hack
  exact exec_answers (fun _ => rfl) hr hc hack (ht ▸ offerHeld_intake { s with queue := freed })

/-- Settles O51: the span ends at the record named, and the room it frees goes to no record, to none that fits, or to the
one held. -/
theorem resultAckReleases : Obligations.ResultAckReleases := by
  intro s r rest n0 n1 n2 n3 before after e freed hr hcode hp hq hb hn he hd hfreed
  have hnumber : ackNumber r = e.record.number := BitVec.eq_of_toNat_eq ((ackNumber_toNat hp).trans hn.symm)
  have hposition : s.queue.position (ackNumber r) = some before.length := by
    rw [hnumber]
    exact position_eq_length hq hb
  have hspan : s.queue.entries.take (before.length + 1) = before ++ [e] := by rw [hq, take_length_succ]
  have hdelivered : ∀ w ∈ s.queue.entries.take (before.length + 1), w.delivered = true := by
    rw [hspan]
    intro w hw
    rcases List.mem_append.1 hw with hw | hw
    · exact hd w hw
    · rw [List.mem_singleton.1 hw, he]
  have hrelease : releaseRecords (before.length + 1) s.queue = freed := by
    rw [hfreed, releaseRecords, hspan, hq, List.drop_length_add_append]
    simp [entryCosts, traceCosts]
  have hentries : freed.entries = after := by rw [hfreed]
  have hexec := fun t => exec_resultAck_releases (t := t) hr hcode hposition hdelivered hrelease
  refine ⟨fun hbuffer => ?_, fun held hbuffer hroom => ?_, fun held t hbuffer hroom ht => ?_⟩
  · simpa [hbuffer, hentries] using hexec _ (offerHeld_none (s := { s with queue := freed }) hbuffer)
  · simpa [hbuffer, hentries] using hexec _ (offerHeld_refused (s := { s with queue := freed }) hbuffer hroom)
  · have hoffer := offerHeld_admitted (s := { s with queue := freed }) hbuffer hroom
    have hemptied : t.engine.closeBuffer = none := by rw [ht, afterClose_closeBuffer]
    have hqueue : t.queue = freed.plus held.record held.cost held.created := by rw [ht, afterClose_queue]
    simpa [hbuffer, hemptied, hqueue] using hexec t (hoffer.trans ht.symm)

end Sys2Proof.Machine
end

section
/-! PROOF. What one step can do to the blocks that measure. Every invariant of measurement reads the Timebase, the Cycle
Engine, the channel units, the Profile Store and the Result Queue only; the pins, the Input Conditioner and the Host Link
merely decide which of a few effects a step has on them. The effects are said once here, for every command and every
event the part takes of its own accord, and each invariant is then proved effect by effect. -/

namespace Sys2Proof.Machine

/-! ### The measuring blocks -/

/-- The blocks that the invariants of measurement read. -/
structure Blocks where
  time : Timebase
  engine : Engine
  units : Twelve ChannelUnit
  store : ProfileStore
  queue : ResultQueue

/-- The measuring blocks of the part. -/
def State.blocks (s : State) : Blocks := ⟨s.time, s.engine, s.units, s.store, s.queue⟩

/-- The measuring blocks at their reset values. -/
def Blocks.atReset : Blocks :=
  ⟨Timebase.atReset, Engine.atReset, Twelve.all ChannelUnit.offUnit, ProfileStore.atReset, ResultQueue.atReset⟩

theorem blocks_eq_iff {s t : State} : s.blocks = t.blocks ↔
    s.time = t.time ∧ s.engine = t.engine ∧ s.units = t.units ∧ s.store = t.store ∧ s.queue = t.queue := by
  simp [State.blocks]

/-- A property of states that reads the measuring blocks only. -/
def readsBlocks (P : State → Prop) : Prop := ∀ {s t : State}, s.blocks = t.blocks → P s → P t

@[simp] theorem post_blocks (e : Event) (s : State) : (s.post e).blocks = s.blocks := rfl
@[simp] theorem passAll_blocks (events : List Event) (s : State) : (passAll events s).blocks = s.blocks := rfl
@[simp] theorem popIntake_blocks (s : State) : (popIntake s).blocks = s.blocks := rfl
@[simp] theorem forgetCopy_blocks (r : Request) (s : State) : (forgetCopy r s).blocks = s.blocks := rfl
@[simp] theorem answerFromCache_blocks (e : Reply) (s : State) : (answerFromCache e s).blocks = s.blocks := rfl
@[simp] theorem completeWith_blocks (r : Request) (a : Answer) (s : State) : (completeWith r a s).blocks = s.blocks := rfl

/-! ### What the tagged fields keep (R97, R100) -/

/-- The pending selection names a READY slot. -/
theorem pendingProfile_eq_some {s : State} {k : Fin 4} {rev : BitVec 16} {p : Profile}
    (h : s.pendingProfile = some (k, rev, p)) : s.store.selected = some k ∧ s.store.slots.get k = .ready rev p := by
  unfold State.pendingProfile at h
  split at h
  · cases h
  · next hs =>
    split at h
    · next hk =>
      cases h
      exact ⟨hs, hk⟩
    · cases h
    · cases h

theorem writeFields_keeps {α : Type} {write : TaggedField → α → Option α} {Q : α → Prop}
    (hw : ∀ {f a b}, write f a = some b → Q a → Q b) {seen : List Byte} {fields : List TaggedField} {a b : α}
    (h : writeFields write seen fields a = .ok b) (ha : Q a) : Q b := by
  induction fields generalizing seen a with
  | nil => cases h; exact ha
  | cons f fs ih =>
    rw [writeFields] at h
    split at h
    · cases h
    · split at h
      · cases h
      · next m hm => exact ih h (hw hm ha)

/-- A global field written is in its range. -/
theorem writeGlobal_inRange {f : TaggedField} {p q : Profile} (h : writeGlobal f p = some q) (hp : p.inRange) :
    q.inRange := by
  obtain ⟨hdiv, hdiv', hwin, hquota⟩ := hp
  rw [writeGlobal_eq_some_iff] at h
  rcases h with ⟨-, rfl⟩ | ⟨-, h1, h2, rfl⟩ | ⟨-, h1, rfl⟩ | ⟨-, -, rfl⟩ | ⟨-, -, rfl⟩ | ⟨-, -, rfl⟩ | ⟨-, -, rfl⟩
    | ⟨-, -, rfl⟩ | ⟨-, -, rfl⟩ | ⟨-, -, rfl⟩ | ⟨-, -, rfl⟩ | ⟨-, -, rfl⟩ | ⟨-, -, rfl⟩ | ⟨-, -, rfl⟩ | ⟨-, -, rfl⟩
    | ⟨-, -, rfl⟩ | ⟨-, -, rfl⟩
  case inr.inl =>
    have hn : (BitVec.ofNat 16 f.2.toNat).toNat = f.2.toNat := Nat.mod_eq_of_lt (by omega)
    exact ⟨hn.symm ▸ h1, hn.symm ▸ h2, hwin, hquota⟩
  case inr.inr.inl =>
    have hn : (BitVec.ofNat 32 f.2.toNat).toNat = f.2.toNat := Nat.mod_eq_of_lt f.2.isLt
    exact ⟨hdiv, hdiv', hn.symm ▸ h1, hquota⟩
  all_goals exact ⟨hdiv, hdiv', hwin, hquota⟩

theorem writeChannel_quota {f : TaggedField} {a b : ChannelFields} (h : writeChannel f a = some b)
    (ha : 1 ≤ a.quota.toNat) : 1 ≤ b.quota.toNat := by
  unfold writeChannel at h
  simp only at h
  split at h
  case h_3 =>
    obtain ⟨v, hv, rfl⟩ := Option.map_eq_some_iff.1 h
    obtain ⟨h1, h2, rfl⟩ := inRange_eq_some_iff.1 hv
    have hn : (BitVec.ofNat 8 f.2.toNat).toNat = f.2.toNat := Nat.mod_eq_of_lt (by omega)
    exact hn.symm ▸ h1
  case h_6 => cases h
  all_goals
    obtain ⟨v, -, rfl⟩ := Option.map_eq_some_iff.1 h
    exact ha

theorem inRange_setChannel {p : Profile} {ch : Channel} {f : ChannelFields} (h : p.inRange) (hf : 1 ≤ f.quota.toNat) :
    Profile.inRange { p with chans := p.chans.set ch f } := by
  obtain ⟨hdiv, hdiv', hwin, hquota⟩ := h
  refine ⟨hdiv, hdiv', hwin, fun i hi => ?_⟩
  simp only [Twelve.get_set]
  split
  · exact hf
  · exact hquota i hi

/-! ### The effects -/

/-- A stop edge accepted on channel `ch` is the last conclusion of the open cycle (R40, R65). -/
def State.concludesLast (ch : Channel) (s : State) : Prop :=
  (s.units.get ch).state ≠ .done ∧ (qualifiedEdge s.time.elapsed (s.units.get ch)).state = .done
    ∧ s.engine.state = .measuring
    ∧ ({ s with units := s.units.set ch (qualifiedEdge s.time.elapsed (s.units.get ch)) } : State).allConcluded = true

/-- A stop edge has reached its unit. -/
def edgeReached (accepted : Bool) (ch : Channel) (s : State) : State :=
  { s with units := s.units.set ch (unitEdge accepted s.time.elapsed (s.units.get ch)) }

/-- How a profile request may rewrite slot `k` (R99, R101, R104): a slot that is not pending is emptied, or written with
contents that stay in range; a DRAFT slot that passes the check becomes READY. -/
def rewritesSlot (store : ProfileStore) (k : Fin 4) (new : Slot) : Prop :=
  (store.selected ≠ some k ∧ (new = .empty ∨ ∃ p, new = .draft (store.slots.get k).revision p
      ∧ ((store.slots.get k).base.inRange → p.inRange)))
    ∨ ∃ rev p, store.slots.get k = .draft rev p ∧ checkProfile p = none ∧ new = .ready (wrapToOne rev) p

/-- What a command can do to the measuring blocks, other than a reset: each operation of the Cycle Engine, of a unit, of
the Profile Store and of the Result Queue, with the condition under which it is done. -/
inductive Effect (c : Instr) (s : State) : State → Prop where
  | nothing : Effect c s s
  | counts (overlaps : Byte) (missed : BitVec 16) :
    Effect c s { s with engine := { s.engine with overlaps := overlaps, missed := missed } }
  | requestStop : s.engine.state = .measuring ∨ s.engine.state = .stalled → Effect c s (requestStop s)
  | edge (ch : Channel) (accepted : Bool) : (accepted = true → ¬ s.concludesLast ch) →
    Effect c s (edgeReached accepted ch s)
  | lastEdge (ch : Channel) : s.concludesLast ch → Effect c s (closeCycle .concluded none (edgeReached true ch s))
  | endBlanking (ch : Channel) :
    Effect c s { s with units := s.units.set ch (endBlanking s.time.elapsed (s.units.get ch)) }
  | takeStart (src : StartTaken) : s.engine.state = .armed → Effect c s (takeStart src s)
  | restart (src : StartTaken) : s.engine.state = .measuring → Effect c s (closeCycle (.cut .restart) (some src) s)
  | abortCycle : s.engine.state = .measuring → Effect c s (closeCycle (.cut .host) none (Machine.requestStop s))
  | expire : s.windowDue = true → Effect c s (closeCycle .expired none s)
  | boundary : s.engine.state = .holdoff → Effect c s (boundarySequence s).state
  | arm : c = .arm → s.engine.state = .idle → s.engine.active.isSome = true → Effect c s (armRun s)
  | armPending (k : Fin 4) (rev : BitVec 16) (p : Profile) : c = .arm → s.engine.state = .idle →
    s.store.selected = some k → s.store.slots.get k = .ready rev p → Effect c s (armRun (loadProfile k rev p s))
  | leave (reason : RunEndReason) : s.engine.state ≠ .measuring →
    (s.engine.state = .stalled → s.engine.closeBuffer = none) → Effect c s (leaveRun reason s)
  | giveUp (r : ClosedRecord) : s.engine.state = .stalled → s.engine.closeBuffer = some r → Effect c s (giveUpHeld r s)
  | setSlot (k : Fin 4) (new : Slot) : rewritesSlot s.store k new → Effect c s (setSlot k new s)
  | select (k : Option (Fin 4)) : (∀ j ∈ k, (s.store.slots.get j).isReady = true) → Effect c s (selectSlot k s)
  | applyIdle (k : Fin 4) (rev : BitVec 16) (p : Profile) : s.engine.state = .idle → s.store.slots.get k = .ready rev p →
    Effect c s (loadProfile k rev p s)
  | markDelivered (n : Nat) : Effect c s { s with queue := markDelivered n s.queue }
  | release (n : Nat) : Effect c s (offerHeld { s with queue := releaseRecords n s.queue })

/-- From `s` to `t` the measuring blocks change by one effect of the command; what stands before the effect, and after it,
touches the other blocks only. -/
def hasEffect (c : Instr) (s t : State) : Prop :=
  ∃ u v, u.blocks = s.blocks ∧ Effect c u v ∧ t.blocks = v.blocks

section
variable {c : Instr}

theorem hasEffect_nothing {s t : State} (h : t.blocks = s.blocks) : hasEffect c s t := ⟨s, s, rfl, .nothing, h⟩

theorem Effect.hasEffect {s t : State} (h : Effect c s t) : hasEffect c s t := ⟨s, t, rfl, h, rfl⟩

theorem hasEffect_before {s t u : State} (h : hasEffect c u t) (hu : u.blocks = s.blocks) : hasEffect c s t := by
  obtain ⟨v, w, hv, he, ht⟩ := h
  exact ⟨v, w, hv.trans hu, he, ht⟩

theorem hasEffect_after {s t v : State} (h : hasEffect c s v) (ht : t.blocks = v.blocks) : hasEffect c s t := by
  obtain ⟨u, w, hu, he, hv⟩ := h
  exact ⟨u, w, hu, he, ht.trans hv⟩

/-! ### The effect of each operation -/

theorem startEvent_hasEffect (src : StartTaken) (s : State) : hasEffect c s (startEvent src s) := by
  unfold startEvent
  split
  · split
    · exact hasEffect_nothing rfl
    · next h => exact (Effect.takeStart src h).hasEffect
    · next h =>
      split
      · exact (Effect.counts _ _).hasEffect
      · exact (Effect.restart src h).hasEffect
    · exact (Effect.counts _ _).hasEffect
    · exact (Effect.counts _ _).hasEffect
  · exact hasEffect_nothing rfl

theorem qualifiedStop_hasEffect (ch : Channel) (s : State) : hasEffect c s (qualifiedStop ch s) := by
  by_cases h : s.concludesLast ch
  · exact ⟨s, _, rfl, .lastEdge ch h, congrArg State.blocks (if_pos h)⟩
  · exact ⟨s, _, rfl, .edge ch true fun _ => h, congrArg State.blocks (if_neg h)⟩

theorem rejectedStop_hasEffect (ch : Channel) (s : State) : hasEffect c s (rejectedStop ch s) :=
  (Effect.edge ch false (by simp)).hasEffect

/-- An edge handed to its receiver. -/
theorem deliverEdge_hasEffect (e : HeldEdge) (s : State) : hasEffect c s (deliverEdge e s) := by
  unfold deliverEdge
  split <;> split
  · exact startEvent_hasEffect _ s
  · exact hasEffect_nothing rfl
  · exact qualifiedStop_hasEffect _ s
  · exact rejectedStop_hasEffect _ s

theorem takeTransition_hasEffect (line : Line) (s : State) : hasEffect c s (takeTransition line s) := by
  unfold takeTransition
  split
  · split
    · exact hasEffect_nothing rfl
    · simp only
      split
      · rw [passEdge, judges_eq, edgeOf]
        split
        · exact hasEffect_before (deliverEdge_hasEffect _ _) rfl
        · exact hasEffect_nothing rfl
      · exact hasEffect_nothing rfl
      · exact hasEffect_nothing rfl
  · exact hasEffect_nothing rfl

theorem blankingEnd_hasEffect (ch : Channel) (s : State) : hasEffect c s (blankingEnd ch s) := by
  unfold blankingEnd
  split
  · exact (Effect.endBlanking ch).hasEffect
  · exact hasEffect_nothing rfl

theorem windowExpiry_hasEffect (s : State) : hasEffect c s (windowExpiry s) := by
  unfold windowExpiry
  split
  · next h => exact (Effect.expire (Bool.and_eq_true_iff.1 h).2).hasEffect
  · exact hasEffect_nothing rfl

theorem holdoffExpiry_hasEffect (s : State) : hasEffect c s (holdoffExpiry s) := by
  unfold holdoffExpiry
  split
  · next h =>
    have hstate : s.engine.state = .holdoff := by
      simp only [State.holdoffDue, Bool.and_eq_true, decide_eq_true_eq] at h
      exact h.2.1
    exact hasEffect_after (Effect.boundary hstate).hasEffect rfl
  · exact hasEffect_nothing rfl

theorem carryArm_hasEffect (r : Request) (s : State) : hasEffect .arm s (carryArm r s).1 := by
  unfold carryArm
  split
  · next hidle =>
    cases hp : s.pendingProfile with
    | none =>
      simp only
      split
      · next ha => exact (Effect.arm rfl hidle ha).hasEffect
      · exact hasEffect_nothing rfl
    | some sel =>
      obtain ⟨k, rev, p⟩ := sel
      obtain ⟨hs, hk⟩ := pendingProfile_eq_some hp
      have harm := Effect.armPending (s := s.post (.profileTaken k rev (wrapToOne s.engine.runNumber))) k rev p rfl hidle
        hs hk
      exact hasEffect_before harm.hasEffect rfl
  · exact hasEffect_nothing rfl

theorem disarm_hasEffect (s : State) : hasEffect c s (disarm s) := by
  unfold disarm
  split
  · exact hasEffect_nothing rfl
  · next h => exact hasEffect_after (Effect.leave .disarmed (by simp [h]) (by simp [h])).hasEffect rfl
  · next h => exact hasEffect_after (Effect.leave .disarmed (by simp [h]) (by simp [h])).hasEffect rfl
  · next h => exact (Effect.requestStop (.inl h)).hasEffect
  · next h => exact (Effect.requestStop (.inr h)).hasEffect

theorem abortRun_hasEffect (s : State) : hasEffect c s (abortRun s) := by
  unfold abortRun
  split
  · exact hasEffect_nothing rfl
  · next h => exact hasEffect_after (Effect.leave .aborted (by simp [h]) (by simp [h])).hasEffect rfl
  · next h => exact hasEffect_after (Effect.leave .aborted (by simp [h]) (by simp [h])).hasEffect rfl
  · next h => exact (Effect.abortCycle h).hasEffect
  · next h =>
    split
    · next hb => exact hasEffect_after (Effect.leave .aborted (by simp [h]) fun _ => hb).hasEffect rfl
    · next r hb => exact (Effect.giveUp r h hb).hasEffect

theorem clearSlot_hasEffect (r : Request) (s : State) : hasEffect c s (clearSlot r s).1 := by
  unfold clearSlot
  split
  · exact hasEffect_nothing rfl
  · split
    · exact hasEffect_nothing rfl
    · next k _ hs => exact (Effect.setSlot k _ (.inl ⟨hs, .inl rfl⟩)).hasEffect

theorem setGlobal_hasEffect (r : Request) (s : State) : hasEffect c s (setGlobal r s).1 := by
  unfold setGlobal
  split
  · exact hasEffect_nothing rfl
  · split
    · exact hasEffect_nothing rfl
    · next k _ hs =>
      simp only
      split
      · exact hasEffect_nothing rfl
      · next p hw =>
        exact (Effect.setSlot k _ (.inl ⟨hs, .inr ⟨p, rfl, fun h => writeFields_keeps writeGlobal_inRange hw h⟩⟩)).hasEffect

theorem setChannel_hasEffect (r : Request) (s : State) : hasEffect c s (setChannel r s).1 := by
  unfold setChannel
  split
  · exact hasEffect_nothing rfl
  · split
    · exact hasEffect_nothing rfl
    · split
      · exact hasEffect_nothing rfl
      · next k _ _ ch _ hs =>
        simp only
        split
        · exact hasEffect_nothing rfl
        · next f hw =>
          refine (Effect.setSlot k _ (.inl ⟨hs, .inr ⟨_, rfl, fun h => ?_⟩⟩)).hasEffect
          exact inRange_setChannel h (writeFields_keeps (Q := fun f => 1 ≤ f.quota.toNat) writeChannel_quota hw
            (h.2.2.2 ch (mem_channels ch)))

theorem checkSlot_hasEffect (r : Request) (s : State) : hasEffect c s (checkSlot r s).1 := by
  unfold checkSlot
  split
  · exact hasEffect_nothing rfl
  · split
    · exact hasEffect_nothing rfl
    · exact hasEffect_nothing rfl
    · next k _ _ rev p hk =>
      split
      · exact hasEffect_nothing rfl
      · next hcheck => exact (Effect.setSlot k _ (.inr ⟨rev, p, hk, hcheck, rfl⟩)).hasEffect

theorem selectProfile_hasEffect (r : Request) (s : State) : hasEffect c s (selectProfile r s).1 := by
  unfold selectProfile
  split
  · exact (Effect.select none (by simp)).hasEffect
  · split
    · exact hasEffect_nothing rfl
    · split
      · exact hasEffect_nothing rfl
      · exact hasEffect_nothing rfl
      · next k _ _ rev p hk =>
        split
        · next hidle => exact hasEffect_after (Effect.applyIdle k rev p hidle hk).hasEffect rfl
        · exact (Effect.select (some k) (by simp [hk, Slot.isReady])).hasEffect

theorem readResult_hasEffect (r : Request) (s : State) : hasEffect c s (readResult r s).1 := by
  unfold readResult
  split
  · exact hasEffect_nothing rfl
  · split
    · exact hasEffect_nothing rfl
    · exact (Effect.markDelivered _).hasEffect

theorem ackResults_hasEffect (r : Request) (s : State) : hasEffect c s (ackResults r s).1 := by
  unfold ackResults
  split
  · exact hasEffect_nothing rfl
  · split
    · exact hasEffect_nothing rfl
    · exact (Effect.release _).hasEffect

/-- A request row has the effect of the carrying out of its request, or none. -/
theorem takeRequest_hasEffect {mine : Byte → Bool} {carryOut : Request → State → State} (s : State)
    (h : ∀ r u, u.blocks = s.blocks → hasEffect c s (carryOut r u)) : hasEffect c s (takeRequest mine carryOut s) := by
  unfold takeRequest
  split
  · exact hasEffect_nothing rfl
  · split
    · split
      · exact hasEffect_nothing rfl
      · split
        · exact hasEffect_nothing rfl
        · unfold dealWith
          split
          · exact hasEffect_nothing rfl
          · exact h _ _ rfl
    · exact hasEffect_nothing rfl

theorem answered_hasEffect {mine : Byte → Bool} {f : Request → State → State × Answer} (s : State)
    (h : ∀ r u, hasEffect c u (f r u).1) : hasEffect c s (takeRequest mine (answered f) s) :=
  takeRequest_hasEffect s fun r u hu => hasEffect_after (hasEffect_before (h r u) hu) rfl

/-- A request that is only answered, or that changes the Host Link only. -/
theorem takeRequest_hasNoEffect {mine : Byte → Bool} {carryOut : Request → State → State} (s : State)
    (h : ∀ r u, (carryOut r u).blocks = u.blocks) : hasEffect c s (takeRequest mine carryOut s) :=
  takeRequest_hasEffect s fun r u hu => hasEffect_nothing ((h r u).trans hu)

end

/-! ### Commands -/

/-- The commands that reset the part. -/
def resetCommand : Instr → Bool
  | .pinReset => true
  | .resetNRelease _ _ => true
  | .requestReset _ _ => true
  | _ => false

theorem onCharacter_blocks (f : HostLink → HostLink) (s : State) : (onCharacter f s).blocks = s.blocks := by
  unfold onCharacter
  split <;> rfl

theorem frameSent_blocks (s : State) : (frameSent s).blocks = s.blocks := by
  unfold frameSent
  split <;> try rfl
  split <;> rfl

theorem carryOpen_blocks (r : Request) (s : State) : (carryOpen r s).1.blocks = s.blocks := by
  unfold carryOpen
  split
  · rfl
  · split
    · rfl
    · split <;> rfl

theorem readStats_blocks {clear : State → State} (h : ∀ s, (clear s).blocks = s.blocks) (r : Request) (s : State) :
    (readStats clear r s).1.blocks = s.blocks := by
  unfold readStats
  split
  · rfl
  · split
    · exact h s
    · rfl

theorem readProfile_blocks (r : Request) (s : State) : (readProfile r s).1.blocks = s.blocks := by
  unfold readProfile
  split <;> split <;> rfl

/-- A command resets the measuring blocks, or has an effect on them. -/
theorem exec_hasEffect {c : Instr} {s t : State} (h : exec c s = .next t) :
    (resetCommand c = true ∧ t.blocks = Blocks.atReset) ∨ hasEffect c s t := by
  cases c with
  | requestFrameArrival seq code payload =>
    right
    simp only [exec, execRequestFrameArrival] at h
    split at h
    · cases h
      exact hasEffect_nothing (onCharacter_blocks _ s)
    · cases h
  | pinReset =>
    cases h
    unfold pinReset
    simp only
    split
    · exact .inl ⟨rfl, rfl⟩
    · exact .inr (hasEffect_nothing rfl)
  | resetNRelease b1 b0 =>
    cases h
    unfold resetNRelease
    simp only
    split
    · exact .inl ⟨rfl, rfl⟩
    · exact .inr (hasEffect_nothing rfl)
  | requestReset b1 b0 =>
    cases h
    unfold requestReset
    split
    · exact .inl ⟨rfl, rfl⟩
    · exact .inr (hasEffect_nothing rfl)
  | refclkStop => cases h; exact .inr (hasEffect_nothing rfl)
  | refclkResume => cases h; exact .inr (hasEffect_nothing rfl)
  | startTransition => cases h; exact .inr (takeTransition_hasEffect _ s)
  | stopTransition ch => cases h; exact .inr (takeTransition_hasEffect _ s)
  | filterLapse line =>
    cases h
    unfold lapseLine
    split <;> exact .inr (hasEffect_nothing rfl)
  | blankingEnd ch => cases h; exact .inr (blankingEnd_hasEffect ch s)
  | windowExpiry => cases h; exact .inr (windowExpiry_hasEffect s)
  | holdoffExpiry => cases h; exact .inr (holdoffExpiry_hasEffect s)
  | framingError cause => cases h; exact .inr (hasEffect_nothing (onCharacter_blocks _ s))
  | crcError => cases h; exact .inr (hasEffect_nothing (onCharacter_blocks _ s))
  | misdirectedFrame => cases h; exact .inr (hasEffect_nothing (onCharacter_blocks _ s))
  | linkAck seq => cases h; exact .inr (hasEffect_nothing (onCharacter_blocks _ s))
  | byteReceived b => cases h; exact .inr (hasEffect_nothing (onCharacter_blocks _ s))
  | gapTimeout =>
    cases h
    unfold gapTimeout
    split <;> exact .inr (hasEffect_nothing rfl)
  | lineBreak =>
    cases h
    unfold takeBreak
    split <;> exact .inr (hasEffect_nothing rfl)
  | receiveLineHighAgain =>
    cases h
    unfold lineHighAgain
    split <;> exact .inr (hasEffect_nothing rfl)
  | frameSent => cases h; exact .inr (hasEffect_nothing (frameSent_blocks s))
  | reportTimeout slot =>
    cases h
    unfold reportTimeout
    split <;> exact .inr (hasEffect_nothing rfl)
  | identify => cases h; exact .inr (takeRequest_hasNoEffect s fun _ _ => rfl)
  | status => cases h; exact .inr (takeRequest_hasNoEffect s fun _ _ => rfl)
  | sessionOpen => cases h; exact .inr (takeRequest_hasNoEffect s carryOpen_blocks)
  | sessionClose => cases h; exact .inr (takeRequest_hasNoEffect s fun _ _ => rfl)
  | linkStats => cases h; exact .inr (takeRequest_hasNoEffect s (readStats_blocks fun _ => rfl))
  | deviceReset => cases h; exact .inr (takeRequest_hasNoEffect s fun _ _ => rfl)
  | profileRead => cases h; exact .inr (takeRequest_hasNoEffect s readProfile_blocks)
  | queueStatus => cases h; exact .inr (takeRequest_hasNoEffect s fun _ _ => rfl)
  | unknownRequest => cases h; exact .inr (takeRequest_hasNoEffect s fun _ _ => rfl)
  | profileClear => cases h; exact .inr (answered_hasEffect s clearSlot_hasEffect)
  | profileSetGlobal => cases h; exact .inr (answered_hasEffect s setGlobal_hasEffect)
  | profileSetChannel => cases h; exact .inr (answered_hasEffect s setChannel_hasEffect)
  | profileCheck => cases h; exact .inr (answered_hasEffect s checkSlot_hasEffect)
  | profileSelect => cases h; exact .inr (answered_hasEffect s selectProfile_hasEffect)
  | arm => cases h; exact .inr (answered_hasEffect s carryArm_hasEffect)
  | disarm => cases h; exact .inr (answered_hasEffect s fun _ => disarm_hasEffect)
  | abort => cases h; exact .inr (answered_hasEffect s fun _ => abortRun_hasEffect)
  | start => cases h; exact .inr (answered_hasEffect s fun _ => startEvent_hasEffect .host)
  | resultRead => cases h; exact .inr (answered_hasEffect s readResult_hasEffect)
  | resultAck => cases h; exact .inr (answered_hasEffect s ackResults_hasEffect)

/-! ### Steps -/

theorem takeRecordReport_hasEffect {c : Instr} {n : Nat} {s t : State} (h : takeRecordReport n s = some t) :
    hasEffect c s t := by
  unfold takeRecordReport at h
  split at h
  · cases h
  · cases h
    exact hasEffect_after (Effect.markDelivered n).hasEffect rfl

theorem takeEventReport_blocks {s t : State} (h : takeEventReport s = some t) : t.blocks = s.blocks := by
  unfold takeEventReport at h
  split at h <;> cases h
  rfl

theorem nextNewReport_hasEffect {c : Instr} {p : SessionParams} {s t : State} (h : nextNewReport p s = some t) :
    hasEffect c s t := by
  unfold nextNewReport at h
  split at h
  · split at h
    · cases h
    · exact hasEffect_nothing (takeEventReport_blocks h)
    · exact takeRecordReport_hasEffect h
    · split at h
      · exact hasEffect_nothing (takeEventReport_blocks h)
      · exact takeRecordReport_hasEffect h
  · cases h

/-- The arbiter's choice touches the Host Link, and marks the record of a RESULT report. -/
theorem arbiterChoice_hasEffect {c : Instr} {s t : State} (h : arbiterChoice s = some t) : hasEffect c s t := by
  unfold arbiterChoice at h
  split at h
  · split at h
    · next u hu =>
      obtain rfl : u = t := Option.some.inj h
      unfold nextReply at hu
      split at hu <;> cases hu
      exact hasEffect_nothing rfl
    · unfold nextReport at h
      split at h
      · split at h
        · cases h
        · split at h
          · next u hu =>
            obtain rfl : u = t := Option.some.inj h
            obtain ⟨w, -, rfl⟩ := Option.map_eq_some_iff.1 hu
            exact hasEffect_nothing rfl
          · exact nextNewReport_hasEffect h
      · cases h
      · cases h
  · cases h

/-- What one step can do to the measuring blocks: reset them, have one effect on them, or let a base period pass with
nothing due in it. -/
inductive StepEffect (s t : State) : Prop where
  | reset : t.blocks = Blocks.atReset → StepEffect s t
  | effect (c : Instr) : hasEffect c s t → StepEffect s t
  | period : s.live = true → internals s = [] → t = advance s → StepEffect s t

theorem exec_stepEffect {c : Instr} {s t u : State} (h : exec c u = .next t) (hu : u.blocks = s.blocks) :
    StepEffect s t := by
  rcases exec_hasEffect h with ⟨-, hr⟩ | he
  · exact .reset hr
  · exact .effect c (hasEffect_before he hu)

theorem finishStats_blocks (s : State) : (finishStats s).blocks = s.blocks := by
  unfold finishStats
  split <;> rfl

theorem takeInternal_stepEffect {i : Internal} {s t u : State} (h : takeInternal i u = .next t)
    (hu : u.blocks = s.blocks) : StepEffect s t := by
  cases i with
  | judge line => cases h; exact .effect .identify (hasEffect_nothing hu)
  | receive e => cases h; exact .effect .identify (hasEffect_before (deliverEdge_hasEffect e _) hu)
  | found c =>
    simp only [takeInternal, takeFound] at h
    split at h
    · next v hv =>
      cases h
      rcases exec_hasEffect hv with ⟨-, hr⟩ | he
      · exact .reset hr
      · exact .effect c (hasEffect_before he hu)
    · cases h
    · cases h
  | due c => exact exec_stepEffect h hu
  | readStats =>
    cases h
    exact .effect .identify (hasEffect_before (takeRequest_hasNoEffect u (readStats_blocks fun _ => rfl)) hu)
  | clearStats => cases h; exact .effect .identify (hasEffect_nothing ((finishStats_blocks u).trans hu))
  | choose =>
    cases h
    cases hc : arbiterChoice u with
    | none => exact .effect .identify (hasEffect_nothing hu)
    | some v => exact .effect .identify (hasEffect_before (arbiterChoice_hasEffect hc) hu)

theorem basePeriod_stepEffect {s : State} (h : internals s = []) : StepEffect s (basePeriod s) := by
  unfold basePeriod
  split
  · exact .effect .identify (hasEffect_nothing rfl)
  · split
    · exact .reset rfl
    · split
      · exact .reset rfl
      · next hc _ hh => exact .period (by simp_all [State.live]) h rfl

theorem step_stepEffect {s t : State} (h : step s = .next t) : StepEffect s t := by
  unfold step at h
  split at h
  · exact exec_stepEffect h rfl
  · unfold idle at h
    split at h
    · next hi =>
      cases h
      exact basePeriod_stepEffect hi
    · exact takeInternal_stepEffect h rfl

/-- What every step leads to: the reset values have it, each effect leads to it, and so does a base period with nothing
due in it. -/
theorem step_leads {P Q : State → Prop} (hp : readsBlocks P) (hq : readsBlocks Q) {s t : State} (h : step s = .next t)
    (hs : P s) (hreset : Q State.reset) (heffect : ∀ {c u v}, Effect c u v → P u → Q v)
    (hperiod : s.live = true → internals s = [] → Q (advance s)) : Q t := by
  cases step_stepEffect h with
  | reset hr => exact hq (s := State.reset) hr.symm hreset
  | effect c he =>
    obtain ⟨u, v, hu, he, ht⟩ := he
    exact hq ht.symm (heffect he (hp hu.symm hs))
  | period hl hi ht => exact ht ▸ hperiod hl hi

/-- An invariant of the measuring blocks: it holds of the reset values, no effect breaks it, and no base period does with
nothing due in it. -/
theorem step_keeps {P : State → Prop} (hp : readsBlocks P) {s t : State} (h : step s = .next t) (hs : P s)
    (hreset : P State.reset) (heffect : ∀ {c u v}, Effect c u v → P u → P v)
    (hperiod : s.live = true → internals s = [] → P (advance s)) : P t :=
  step_leads hp hp h hs hreset heffect hperiod

end Sys2Proof.Machine
end

section
/-! PROOF. The Result Queue stays sound (R114, R116, R121): each operation of the queue keeps its pools true and its cycle
numbers unique, and no effect of a step does anything else to it. -/

namespace Sys2Proof.Machine

/-! ### The operations of the queue -/

section
variable {q : ResultQueue}

theorem queue_sound_atReset : ResultQueue.atReset.sound := by decide

theorem admitRecord_sound {r : ClosedRecord} (h : q.sound) (hr : q.hasRoom r.cost r.record.number) :
    (admitRecord r q).sound := by
  obtain ⟨hrecords, hentries, htraces, -, -, -, hnodup, hlost⟩ := h
  obtain ⟨hr1, hr2, hr3, hnew⟩ := hr
  refine ⟨?_, ?_, ?_, hr1, hr2, hr3, ?_, fun e he => ?_⟩
  · simp [admitRecord, hrecords]
  · simp [admitRecord, entryCosts, hentries]
  · simp [admitRecord, traceCosts, htraces]
  · simp only [admitRecord, List.map_append, List.map_cons, List.map_nil, List.nodup_append]
    refine ⟨hnodup, by simp, fun a ha b hb => ?_⟩
    obtain ⟨e, he, rfl⟩ := List.mem_map.1 ha
    rw [List.mem_singleton.1 hb]
    exact hnew e he
  · rcases List.mem_append.1 he with he | he
    · exact hlost e he
    · rw [List.mem_singleton.1 he]
      rfl

theorem countLoss_sound (h : q.sound) : (countLoss q).sound := h

theorem markDelivered_sound (n : Nat) (h : q.sound) : (markDelivered n q).sound := by
  have hmap : ∀ {α : Type} (f : QueueEntry → α), (∀ e, f { e with delivered := true } = f e) →
      (q.entries.modify n fun e => { e with delivered := true }).map f = q.entries.map f := fun f hf => by
    refine List.ext_getElem? fun i => ?_
    simp only [List.getElem?_map, List.getElem?_modify]
    cases q.entries[i]? <;> simp
    split <;> simp [hf]
  obtain ⟨hrecords, hentries, htraces, h1, h2, h3, hnodup, hlost⟩ := h
  refine ⟨?_, ?_, ?_, h1, h2, h3, ?_, fun e he => ?_⟩
  · simpa [markDelivered] using hrecords
  · simpa [markDelivered, entryCosts, hmap fun e => e.cost.entries] using hentries
  · simpa [markDelivered, traceCosts, hmap fun e => e.cost.traces] using htraces
  · simpa [markDelivered, hmap fun e => e.record.number] using hnodup
  · have hmem : e.record ∈ q.entries.map QueueEntry.record := by
      rw [← hmap QueueEntry.record fun _ => rfl]
      exact List.mem_map_of_mem he
    obtain ⟨w, hw, hrec⟩ := List.mem_map.1 hmem
    exact hrec ▸ hlost w hw

theorem releaseRecords_sound (n : Nat) (h : q.sound) : (releaseRecords n q).sound := by
  obtain ⟨hrecords, hentries, htraces, h1, h2, h3, hnodup, hlost⟩ := h
  have hsum : ∀ f : QueueEntry → Nat,
      (q.entries.map f).sum = ((q.entries.take n).map f).sum + ((q.entries.drop n).map f).sum := fun f => by
    rw [← List.sum_append, ← List.map_append, List.take_append_drop]
  refine ⟨?_, ?_, ?_, ?_, ?_, ?_, ?_, fun e he => hlost e (List.mem_of_mem_drop he)⟩
  · simp only [releaseRecords, hrecords, List.length_take, List.length_drop]
    omega
  · simp only [releaseRecords, hentries, entryCosts, hsum fun e => e.cost.entries]
    omega
  · simp only [releaseRecords, htraces, traceCosts, hsum fun e => e.cost.traces]
    omega
  · exact (Nat.sub_le _ _).trans h1
  · exact (Nat.sub_le _ _).trans h2
  · exact (Nat.sub_le _ _).trans h3
  · rw [releaseRecords, List.map_drop]
    exact hnodup.sublist (List.drop_sublist n _)

end

/-! ### The queue after an operation of the engine -/

/-- The queue after an admission request: the record in it, as it was, or with the record counted lost. -/
theorem requestAdmission_queue (r : ClosedRecord) (restart : Option StartTaken) (s : State) :
    (s.queue.hasRoom r.cost r.record.number ∧ (requestAdmission r restart s).queue = admitRecord r s.queue)
      ∨ (requestAdmission r restart s).queue = s.queue ∨ (requestAdmission r restart s).queue = countLoss s.queue := by
  unfold requestAdmission
  split
  · next h => exact .inl ⟨(fits_iff_hasRoom _ _).1 h, by simp⟩
  · split
    · exact .inr (.inl rfl)
    · exact .inr (.inr (afterCloseSequence_keeps_queue_closeBuffer _ _ _).1)

theorem closeCycle_queue_sound {e : Ending} {restart : Option StartTaken} {s : State} (h : s.queue.sound) :
    (closeCycle e restart s).queue.sound := by
  unfold closeCycle
  split
  · exact h
  · simp only
    rcases requestAdmission_queue (buildRecord e _ _) restart (stopCycle _ _) with ⟨hr, hq⟩ | hq | hq <;> rw [hq]
    · exact admitRecord_sound h hr
    · exact h
    · exact h

theorem offerHeld_queue_sound {s : State} (h : s.queue.sound) : (offerHeld s).queue.sound := by
  unfold offerHeld
  split
  · exact h
  · split
    · next hr =>
      simp only [afterClose_queue]
      exact admitRecord_sound h ((fits_iff_hasRoom _ _).1 hr)
    · exact h

@[simp] theorem armRun_queue (s : State) : (armRun s).queue = s.queue := enterArmed_queue _

theorem effect_keeps_queue_sound {c : Instr} {s t : State} (he : Effect c s t) (h : s.queue.sound) : t.queue.sound := by
  cases he with
  | lastEdge ch _ => exact closeCycle_queue_sound (s := edgeReached true ch s) h
  | restart src _ => exact closeCycle_queue_sound h
  | abortCycle _ => exact closeCycle_queue_sound (s := requestStop s) h
  | expire _ => exact closeCycle_queue_sound h
  | boundary _ => simpa using h
  | arm _ _ _ => simpa using h
  | armPending k rev p _ _ _ _ => simpa using h
  | giveUp r _ _ => exact countLoss_sound h
  | markDelivered n => exact markDelivered_sound n h
  | release n => exact offerHeld_queue_sound (releaseRecords_sound n h)
  | _ => exact h

/-- Settles O57: only an admission, a delivery and a release change the records held, and each keeps the queue sound. -/
theorem stepsKeepQueueSound : Obligations.StepsKeepQueueSound := fun s t hs h =>
  step_keeps (P := fun s => s.queue.sound)
    (fun hb hq => by
      obtain ⟨-, -, -, -, hqueue⟩ := blocks_eq_iff.1 hb
      exact hqueue ▸ hq)
    h hs queue_sound_atReset effect_keeps_queue_sound fun _ _ => hs

end Sys2Proof.Machine
end

section
/-! PROOF. The Profile Store and the active profile stay sound (R96, R97, R104, R105, R110): slots are rewritten with
contents in range, a DRAFT slot becomes READY only past the check, and only a READY slot is pending or applied. -/

namespace Sys2Proof.Machine

/-! ### Slots -/

theorem inRange_default : Profile.default.inRange := by decide

theorem wrapToOne_ne_zero (x : BitVec 16) : wrapToOne x ≠ 0 := by
  unfold wrapToOne
  split
  · decide
  · next h =>
    have hx : x ≠ 0xFFFF := h
    bv_omega

theorem base_inRange {slot : Slot} (h : slot.sound) : slot.base.inRange := by
  cases slot with
  | empty => exact inRange_default
  | draft rev p => exact h.1 p rfl
  | ready rev p => exact h.1 p rfl

theorem sound_empty : Slot.empty.sound := ⟨by simp [Slot.contents], by simp [Slot.isReady]⟩

theorem sound_draft {rev : BitVec 16} {p : Profile} (h : p.inRange) : (Slot.draft rev p).sound :=
  ⟨by simpa [Slot.contents] using h, by simp [Slot.isReady]⟩

theorem sound_ready_iff {rev : BitVec 16} {p : Profile} : (Slot.ready rev p).sound ↔ checkedProfile rev p := by
  simp only [Slot.sound, Slot.contents, Slot.isReady, Slot.revision, Option.mem_some_iff, forall_eq', forall_const]
  exact ⟨fun h => h.2, fun h => ⟨h.1, h⟩⟩

/-- A slot rewritten is sound, and READY still if it was pending. -/
theorem rewritesSlot_sound {store : ProfileStore} {k : Fin 4} {new : Slot} (h : rewritesSlot store k new)
    (hs : (store.slots.get k).sound) :
    new.sound ∧ (store.selected = some k → new.isReady = true) := by
  rcases h with ⟨hsel, rfl | ⟨p, rfl, hp⟩⟩ | ⟨rev, p, hk, hcheck, rfl⟩
  · exact ⟨sound_empty, fun h => absurd h hsel⟩
  · exact ⟨sound_draft (hp (base_inRange hs)), fun h => absurd h hsel⟩
  · rw [hk] at hs
    exact ⟨sound_ready_iff.2 ⟨hs.1 p rfl, hcheck, wrapToOne_ne_zero rev⟩, fun _ => rfl⟩

/-! ### The store and the active profile after an operation of the engine -/

/-- The Profile Store and the active profile are sound: the invariant, of the two blocks it reads. -/
def profilesSoundIn (store : ProfileStore) (active : Option ActiveProfile) : Prop :=
  (∀ k, (store.slots.get k).sound) ∧ (∀ k ∈ store.selected, (store.slots.get k).isReady = true)
    ∧ ∀ a ∈ active, checkedProfile a.revision a.profile

theorem profilesSound_iff {s : State} : s.profilesSound ↔ profilesSoundIn s.store s.engine.active := by
  have hall : ∀ k : Fin 4, k ∈ ([0, 1, 2, 3] : List (Fin 4)) := by decide
  simp only [State.profilesSound, profilesSoundIn, hall, forall_const]

theorem profilesSoundIn_unselected {store : ProfileStore} {active : Option ActiveProfile}
    (h : profilesSoundIn store active) : profilesSoundIn { store with selected := none } active :=
  ⟨h.1, by simp, h.2.2⟩

/-- A READY slot becomes the active profile. -/
theorem profilesSoundIn_loaded {store : ProfileStore} {active : Option ActiveProfile} {k : Fin 4} {rev : BitVec 16}
    {p : Profile} (h : profilesSoundIn store active) (hk : store.slots.get k = .ready rev p) :
    profilesSoundIn { store with selected := none } (some ⟨k, rev, p⟩) := by
  have hchecked : checkedProfile rev p := sound_ready_iff.1 (hk ▸ h.1 k)
  exact ⟨h.1, by simp, by simpa using hchecked⟩

@[simp] theorem edgesWithin_store (s : State) : (edgesWithin s).store = s.store := by
  unfold edgesWithin
  split <;> rfl

@[simp] theorem enterArmed_store (s : State) : (enterArmed s).store = s.store := by
  unfold enterArmed
  simp only
  split <;> simp

@[simp] theorem enterArmed_active (s : State) : (enterArmed s).engine.active = s.engine.active := by
  unfold enterArmed
  simp only
  split <;> simp

/-- An arming boundary applies the pending selection, which names a READY slot. -/
theorem boundarySequence_profilesSound {s : State} (h : profilesSoundIn s.store s.engine.active) :
    profilesSoundIn (boundarySequence s).state.store (boundarySequence s).state.engine.active := by
  unfold boundarySequence
  split
  · simpa using h
  · next k rev p hp =>
    have hloaded := profilesSoundIn_loaded h (pendingProfile_eq_some hp).2
    simpa using hloaded

theorem afterCloseSequence_profilesSound {outcome : CycleOutcome} {restart : Option StartTaken} {s : State}
    (h : profilesSoundIn s.store s.engine.active) :
    profilesSoundIn (afterCloseSequence outcome restart s).state.store
      (afterCloseSequence outcome restart s).state.engine.active := by
  unfold afterCloseSequence
  simp only
  split
  · exact h
  split
  · exact h
  cases restart with
  | some src => exact h
  | none =>
    simp only
    split
    · exact h
    · exact boundarySequence_profilesSound h

theorem requestAdmission_profilesSound {r : ClosedRecord} {restart : Option StartTaken} {s : State}
    (h : profilesSoundIn s.store s.engine.active) :
    profilesSoundIn (requestAdmission r restart s).store (requestAdmission r restart s).engine.active := by
  unfold requestAdmission
  split
  · exact afterCloseSequence_profilesSound (s := { s with queue := admitRecord r s.queue }) h
  · split
    · exact h
    · exact afterCloseSequence_profilesSound (s := { s with queue := countLoss s.queue }) h

theorem closeCycle_profilesSound {e : Ending} {restart : Option StartTaken} {s : State}
    (h : profilesSoundIn s.store s.engine.active) :
    profilesSoundIn (closeCycle e restart s).store (closeCycle e restart s).engine.active := by
  unfold closeCycle
  split
  · exact h
  · exact requestAdmission_profilesSound (s := stopCycle _ _) h

theorem offerHeld_profilesSound {s : State} (h : profilesSoundIn s.store s.engine.active) :
    profilesSoundIn (offerHeld s).store (offerHeld s).engine.active := by
  unfold offerHeld
  split
  · exact h
  · split
    · exact afterCloseSequence_profilesSound (s := { s.post _ with queue := _, engine := _ }) h
    · exact h

theorem effect_keeps_profilesSound {c : Instr} {s t : State} (he : Effect c s t)
    (h : profilesSoundIn s.store s.engine.active) : profilesSoundIn t.store t.engine.active := by
  cases he with
  | lastEdge ch _ => exact closeCycle_profilesSound (s := edgeReached true ch s) h
  | restart src _ => exact closeCycle_profilesSound h
  | abortCycle _ => exact closeCycle_profilesSound (s := requestStop s) h
  | expire _ => exact closeCycle_profilesSound h
  | boundary _ => exact boundarySequence_profilesSound h
  | arm _ _ _ => simpa [armRun] using h
  | armPending k rev p _ _ _ hk => simpa [armRun] using profilesSoundIn_loaded h hk
  | setSlot k new hw =>
    obtain ⟨hslots, hsel, hactive⟩ := h
    obtain ⟨hsound, hready⟩ := rewritesSlot_sound hw (hslots k)
    refine ⟨fun j => ?_, fun j hj => ?_, hactive⟩
    · simp only [setSlot_store, Four.get_set]
      split
      · exact hsound
      · exact hslots j
    · simp only [setSlot_store, Four.get_set]
      split
      · next hjk => exact hready (hjk ▸ hj)
      · exact hsel j hj
  | select k hk => exact ⟨h.1, hk, h.2.2⟩
  | applyIdle k rev p _ hk => exact profilesSoundIn_loaded h hk
  | release n => exact offerHeld_profilesSound (s := { s with queue := releaseRecords n s.queue }) h
  | _ => exact h

/-- Settles O56: what a profile request writes is in range, what it makes READY has passed the check, and only READY slots
are applied. -/
theorem stepsKeepProfilesSound : Obligations.StepsKeepProfilesSound := fun s t hs h =>
  profilesSound_iff.2 <| step_keeps (P := fun s => profilesSoundIn s.store s.engine.active)
    (fun hb hq => by
      obtain ⟨-, he, -, hstore, -⟩ := blocks_eq_iff.1 hb
      exact he ▸ hstore ▸ hq)
    h (profilesSound_iff.1 hs)
    (profilesSound_iff.1 (by decide))
    effect_keeps_profilesSound fun _ _ => profilesSound_iff.1 hs

end Sys2Proof.Machine
end

section
/-! PROOF. The accounting of cycles, the engine's columns of Figure 3-1 and the length of a run are kept (R45, R46, R81).
Between the close of a cycle and what the after-close sequence makes of it the engine has no column of the figure: what
holds there is said by `State.atClose`, from which each continuation leads back to a column. -/

namespace Sys2Proof.Machine

/-! ### Between two cycles -/

/-- The records in the totals are the cycles started: none is owed (R45). -/
def State.allRecorded (s : State) : Prop :=
  s.engine.cycleCounter = (s.queue.totalAdmitted + s.queue.totalLost).setWidth 32

/-- The run has cycles left, or no end (R81). -/
def State.runGoesOn (s : State) : Prop :=
  s.profile.runLength ≠ 0 → s.engine.cyclesDone.toNat < s.profile.runLength.toNat

/-- No cycle is open, the counters have stopped and no record is held, a profile being active and no run ended. -/
def State.betweenCycles (s : State) : Prop :=
  s.engine.cycle = none ∧ s.time.counting = false ∧ s.time.tickRunning = false ∧ s.engine.closeBuffer = none
    ∧ s.engine.active ≠ none ∧ s.engine.endReason = none

/-- What holds between the close of a cycle, its record in a total, and the after-close sequence. -/
def State.atClose (s : State) : Prop :=
  s.betweenCycles ∧ s.engine.holdoffTimer = none ∧ s.allRecorded ∧ s.runGoesOn

/-- The invariant of this part: cycles accounted, the engine shaped, the run bounded. -/
def State.cyclesSound (s : State) : Prop := s.accounted ∧ s.engineShaped ∧ s.runBounded

theorem cyclesSound_readsBlocks : readsBlocks State.cyclesSound := by
  intro s t hb h
  obtain ⟨ht, he, -, -, hq⟩ := blocks_eq_iff.1 hb
  simpa only [State.cyclesSound, State.accounted, State.engineShaped, State.runBounded, State.profile, ht, he, hq] using h

/-! ### Starts and entries -/

section
variable {s : State}

/-- A start taken where no record is owed, the run going on: the cycle it begins is the one owed. -/
theorem openCycle_cyclesSound {units : Twelve ChannelUnit} (src : StartTaken) (h : s.atClose) :
    ({ openCycle src s with units := units } : State).cyclesSound := by
  obtain ⟨⟨-, -, -, hbuffer, hactive, hend⟩, hholdoff, hrec, hrun⟩ := h
  refine ⟨?_, ?_, fun _ => hrun⟩
  · simpa [State.accounted, Engine.owesRecord, State.allRecorded] using hrec
  · simp [State.engineShaped, hbuffer, hactive, hend, hholdoff, openCycle, latchCycle, State.profile, Engine.governing]

/-- Stop edges taken at the entry of ARMED change neither the engine nor the time nor the queue. -/
@[simp] theorem edgesWithin_time (s : State) : (edgesWithin s).time = s.time := by
  unfold edgesWithin
  split <;> rfl

theorem edgesWithin_atClose (h : s.atClose) : (edgesWithin s).atClose := by
  simpa [State.atClose, State.betweenCycles, State.allRecorded, State.runGoesOn] using h

theorem armEngine_atClose (h : s.betweenCycles) (hrec : s.allRecorded) (hrun : s.runGoesOn) :
    (armEngine s).atClose :=
  ⟨h, rfl, hrec, hrun⟩

theorem armEngine_cyclesSound (h : s.betweenCycles) (hstop : s.engine.stopRequest = false) (hrec : s.allRecorded)
    (hrun : s.runGoesOn) : (armEngine s).cyclesSound := by
  obtain ⟨hcycle, hcount, htick, hbuffer, hactive, hend⟩ := h
  refine ⟨?_, ?_, fun _ => hrun⟩
  · simpa [State.accounted, Engine.owesRecord, State.allRecorded] using hrec
  · simp [State.engineShaped, armEngine, hcycle, hcount, htick, hbuffer, hactive, hend, hstop]

/-- The entry of ARMED, under IMMEDIATE with the start that follows it (R31, R58). -/
theorem enterArmed_cyclesSound (h : s.betweenCycles) (hstop : s.engine.stopRequest = false) (hrec : s.allRecorded)
    (hrun : s.runGoesOn) : (enterArmed s).cyclesSound := by
  have hb : (edgesWithin s).betweenCycles := by simpa [State.betweenCycles] using h
  have hr : (edgesWithin s).allRecorded := by simpa [State.allRecorded] using hrec
  have hg : (edgesWithin s).runGoesOn := by simpa [State.runGoesOn] using hrun
  unfold enterArmed
  simp only
  split
  · exact openCycle_cyclesSound _ (edgesWithin_atClose (armEngine_atClose hb hr hg))
  · exact armEngine_cyclesSound hb (by simpa using hstop) hr hg

/-- A new run, under the profile that is then active. -/
theorem beginRun_cyclesSound {u : State} (h : u.betweenCycles) (hrec : u.allRecorded)
    (hu : s = { beginRun u with inputs := s.inputs }) : (enterArmed s).cyclesSound := by
  rw [hu]
  obtain ⟨hcycle, hcount, htick, hbuffer, hactive, -⟩ := h
  refine enterArmed_cyclesSound ⟨hcycle, hcount, htick, hbuffer, hactive, rfl⟩ rfl hrec fun hne => ?_
  exact Nat.pos_of_ne_zero fun h0 => hne (BitVec.eq_of_toNat_eq h0)

/-- A run that ends leaves the engine IDLE, with nothing owed. -/
theorem leaveRun_cyclesSound (reason : RunEndReason) (hcycle : s.engine.cycle = none) (hcount : s.time.counting = false)
    (htick : s.time.tickRunning = false) (hbuffer : s.engine.closeBuffer = none) (hrec : s.allRecorded) :
    (leaveRun reason s).cyclesSound := by
  refine ⟨?_, ?_, fun h => absurd rfl h⟩
  · simpa [State.accounted, Engine.owesRecord, State.allRecorded] using hrec
  · simp [State.engineShaped, hcycle, hcount, htick, hbuffer]

/-! ### The arming boundary and the after-close sequence -/

theorem loadProfile_betweenCycles (k : Fin 4) (rev : BitVec 16) (p : Profile) (h : s.betweenCycles) :
    (loadProfile k rev p s).betweenCycles := by
  obtain ⟨hcycle, hcount, htick, hbuffer, -, hend⟩ := h
  exact ⟨hcycle, hcount, htick, hbuffer, by simp, hend⟩

theorem boundarySequence_cyclesSound (h : s.betweenCycles) (hstop : s.engine.stopRequest = false)
    (hrec : s.allRecorded) (hrun : s.runGoesOn) : (boundarySequence s).state.cyclesSound := by
  unfold boundarySequence
  split
  · exact enterArmed_cyclesSound h hstop hrec hrun
  · next k rev p _ => exact beginRun_cyclesSound (loadProfile_betweenCycles k rev p h) hrec rfl

/-- One cycle more done, in a run that has not reached its length, leaves it below its length (R81). -/
theorem satInc_lt {x n : BitVec 16} (h : n ≠ 0 → x.toNat < n.toNat) (hn : n ≠ 0) (hne : satInc x ≠ n) :
    (satInc x).toNat < n.toNat := by
  have hlt := h hn
  have hx : x ≠ 0xFFFF := by
    rintro rfl
    have : (65535 : Nat) < n.toNat := hlt
    omega
  rw [satInc_word, if_neg hx] at hne ⊢
  bv_omega

/-- The state with one cycle more done. -/
theorem cyclesDone_atClose {s : State} (h : s.atClose)
    (hlen : ¬ (s.profile.runLength ≠ 0 ∧ satInc s.engine.cyclesDone = s.profile.runLength)) :
    ({ s with engine := { s.engine with cyclesDone := satInc s.engine.cyclesDone } } : State).atClose :=
  ⟨h.1, h.2.1, h.2.2.1, fun hn => satInc_lt h.2.2.2 hn fun he => hlen ⟨hn, he⟩⟩

theorem afterCloseSequence_cyclesSound (outcome : CycleOutcome) (restart : Option StartTaken) (h : s.atClose) :
    (afterCloseSequence outcome restart s).state.cyclesSound := by
  obtain ⟨hcycle, hcount, htick, hbuffer, hactive, hend⟩ := h.1
  have hrec := h.2.2.1
  unfold afterCloseSequence
  simp only
  split
  · exact leaveRun_cyclesSound _ hcycle hcount htick hbuffer hrec
  next hstop =>
  rw [Bool.not_eq_true] at hstop
  split
  · exact leaveRun_cyclesSound _ hcycle hcount htick hbuffer hrec
  next hlen =>
  have hnext := cyclesDone_atClose h hlen
  cases restart with
  | some src => exact openCycle_cyclesSound src hnext
  | none =>
    simp only
    split
    · refine ⟨?_, ?_, fun _ => hnext.2.2.2⟩
      · simpa [State.accounted, Engine.owesRecord, State.allRecorded] using hrec
      · simp [State.engineShaped, hcycle, hcount, htick, hbuffer, hactive, hend, hstop]
    · exact boundarySequence_cyclesSound hnext.1 hstop hnext.2.2.1 hnext.2.2.2

/-! ### Closing a cycle -/

/-- A record in one of the totals: nothing is owed for its cycle. -/
theorem totals_succ {counter : BitVec 32} {x y : BitVec 64} (h : counter = (x + y).setWidth 32 + 1) :
    counter = (x + 1 + y).setWidth 32 ∧ counter = (x + (y + 1)).setWidth 32 := by
  constructor <;> bv_omega

/-- A cycle closed, its record not yet in a total: the part is between cycles, and owes it. -/
theorem stopCycle_betweenCycles {oc : OpenCycle} (h : s.cyclesSound) (hm : s.engine.state = .measuring) :
    (stopCycle oc s).betweenCycles ∧ s.engine.holdoffTimer = none ∧ s.runGoesOn
      ∧ s.engine.cycleCounter = (s.queue.totalAdmitted + s.queue.totalLost).setWidth 32 + 1 := by
  obtain ⟨hacc, ⟨-, -, -, hbuffer, hholdoff, -, hactive, -, hend⟩, hrun⟩ := h
  simp only [hm, reduceCtorEq, iff_false, imp_false, Bool.not_eq_true, Option.isSome_eq_false_iff,
    Option.isNone_iff_eq_none]
    at hbuffer hholdoff hactive hend
  refine ⟨⟨rfl, rfl, rfl, hbuffer, hactive, not_not.1 hend⟩, hholdoff, hrun (by simp [hm]), ?_⟩
  simpa [State.accounted, Engine.owesRecord, hm] using hacc

theorem requestAdmission_cyclesSound (r : ClosedRecord) (restart : Option StartTaken) (h : s.betweenCycles)
    (hholdoff : s.engine.holdoffTimer = none) (hrun : s.runGoesOn)
    (howes : s.engine.cycleCounter = (s.queue.totalAdmitted + s.queue.totalLost).setWidth 32 + 1) :
    (requestAdmission r restart s).cyclesSound := by
  unfold requestAdmission
  split
  · exact cyclesSound_readsBlocks (passAll_blocks _ _).symm <|
      afterCloseSequence_cyclesSound _ _ ⟨h, hholdoff, (totals_succ howes).1, hrun⟩
  · split
    · obtain ⟨hcycle, hcount, htick, -, hactive, hend⟩ := h
      refine ⟨?_, ?_, fun _ => hrun⟩
      · simpa [State.accounted, Engine.owesRecord, stallWith] using howes
      · simp [State.engineShaped, stallWith, hcycle, hcount, htick, hactive, hend, hholdoff]
    · exact cyclesSound_readsBlocks rfl <|
        afterCloseSequence_cyclesSound r.record.outcome restart ⟨h, hholdoff, (totals_succ howes).2, hrun⟩

theorem closeCycle_cyclesSound (e : Ending) (restart : Option StartTaken) (h : s.cyclesSound)
    (hm : s.engine.state = .measuring) : (closeCycle e restart s).cyclesSound := by
  unfold closeCycle
  split
  · exact h
  · next oc _ =>
    obtain ⟨hb, hholdoff, hrun, howes⟩ := stopCycle_betweenCycles (oc := oc) h hm
    exact requestAdmission_cyclesSound _ _ hb hholdoff hrun howes

/-! ### Every effect -/

/-- A held record is admitted or stays held. -/
theorem offerHeld_cyclesSound (h : s.cyclesSound) : (offerHeld s).cyclesSound := by
  unfold offerHeld
  split
  · exact h
  · next r hr =>
    split
    · obtain ⟨hacc, ⟨hcycle, hcount, htick, hbuffer, hholdoff, -, hactive, -, hend⟩, hrun⟩ := h
      have hst : s.engine.state = .stalled := hbuffer.1 (by simp [hr])
      simp only [hst, reduceCtorEq, iff_false, imp_false, Bool.not_eq_true, Option.isSome_eq_false_iff,
        Option.isNone_iff_eq_none] at hcycle hcount htick hholdoff hactive hend
      have howes : s.engine.cycleCounter = (s.queue.totalAdmitted + s.queue.totalLost).setWidth 32 + 1 := by
        simpa [State.accounted, Engine.owesRecord, hst] using hacc
      exact cyclesSound_readsBlocks (passAll_blocks _ _).symm <| afterCloseSequence_cyclesSound _ _
        ⟨⟨hcycle, hcount, htick, rfl, hactive, not_not.1 hend⟩, hholdoff, (totals_succ howes).1,
          hrun (by simp [hst])⟩
    · exact h

/-- In a state other than MEASURING with no record held, the part is between cycles with nothing owed. -/
theorem cyclesSound_elsewhere (h : s.cyclesSound) (hm : s.engine.state ≠ .measuring)
    (hst : s.engine.state = .stalled → s.engine.closeBuffer = none) :
    s.engine.cycle = none ∧ s.time.counting = false ∧ s.time.tickRunning = false ∧ s.engine.closeBuffer = none
      ∧ s.engine.state ≠ .stalled ∧ s.allRecorded := by
  obtain ⟨hacc, ⟨hcycle, hcount, htick, hbuffer, -⟩, -⟩ := h
  have hns : s.engine.state ≠ .stalled := fun h => by
    have hsome := hbuffer.2 h
    rw [hst h] at hsome
    cases hsome
  simp only [hm, hns, iff_false, Bool.not_eq_true, Option.isSome_eq_false_iff, Option.isNone_iff_eq_none]
    at hcycle hcount htick hbuffer
  refine ⟨hcycle, hcount, htick, hbuffer, hns, ?_⟩
  simpa [State.accounted, State.allRecorded, Engine.owesRecord, hm, hns] using hacc

theorem requestStop_cyclesSound (h : s.cyclesSound) (hst : s.engine.state = .measuring ∨ s.engine.state = .stalled) :
    (requestStop s).cyclesSound := by
  obtain ⟨hacc, ⟨hcycle, hcount, htick, hbuffer, hholdoff, -, hactive, hset, hend⟩, hrun⟩ := h
  exact ⟨hacc, ⟨hcycle, hcount, htick, hbuffer, hholdoff, fun _ => hst, hactive, hset, hend⟩, hrun⟩

theorem giveUpHeld_cyclesSound {r : ClosedRecord} (h : s.cyclesSound) (hst : s.engine.state = .stalled) :
    (giveUpHeld r s).cyclesSound := by
  obtain ⟨hacc, ⟨hcycle, hcount, htick, -⟩, -⟩ := h
  simp only [hst, reduceCtorEq, iff_false, Bool.not_eq_true, Option.isSome_eq_false_iff, Option.isNone_iff_eq_none]
    at hcycle hcount htick
  have howes : s.engine.cycleCounter = (s.queue.totalAdmitted + s.queue.totalLost).setWidth 32 + 1 := by
    simpa [State.accounted, Engine.owesRecord, hst] using hacc
  exact cyclesSound_readsBlocks rfl <| leaveRun_cyclesSound (s := { s with
    queue := countLoss s.queue
    engine := { s.engine with closeBuffer := none, cyclesDone := satInc s.engine.cyclesDone } }) .aborted
    hcycle hcount htick rfl (totals_succ howes).2

/-- In IDLE a profile is loaded, and a run begun under it or the one before. -/
theorem armRun_cyclesSound (h : s.cyclesSound) (hidle : s.engine.state = .idle) :
    (s.engine.active.isSome = true → (armRun s).cyclesSound)
      ∧ ∀ k rev p, (armRun (loadProfile k rev p s)).cyclesSound := by
  obtain ⟨hcycle, hcount, htick, hbuffer, -, hrec⟩ := cyclesSound_elsewhere h (by simp [hidle]) (by simp [hidle])
  have harm : ∀ u : State, u.time = s.time → u.queue = s.queue →
      (∃ a, u.engine = { s.engine with active := some a }) → (armRun u).cyclesSound := by
    rintro u ht hq ⟨a, he⟩
    refine enterArmed_cyclesSound ⟨?_, ?_, ?_, ?_, ?_, rfl⟩ rfl ?_ fun hne => ?_
    · simpa [he] using hcycle
    · simpa [ht] using hcount
    · simpa [ht] using htick
    · simpa [he] using hbuffer
    · simp [he]
    · simpa [State.allRecorded, he, hq] using hrec
    · exact Nat.pos_of_ne_zero fun h0 => hne (BitVec.eq_of_toNat_eq h0)
  refine ⟨fun ha => ?_, fun k rev p => harm _ rfl rfl ⟨_, rfl⟩⟩
  obtain ⟨a, ha⟩ := Option.isSome_iff_exists.1 ha
  exact harm s rfl rfl ⟨a, by rw [← ha]⟩

theorem concludesLast_measuring {ch : Channel} (h : s.concludesLast ch) : s.engine.state = .measuring := h.2.2.1

theorem windowDue_measuring (h : s.windowDue = true) : s.engine.state = .measuring := by
  unfold State.windowDue at h
  split at h
  · cases h
  · simp only [Bool.and_eq_true, decide_eq_true_eq] at h
    exact h.1.1

end

theorem effect_keeps_cyclesSound {c : Instr} {s t : State} (he : Effect c s t) (h : s.cyclesSound) : t.cyclesSound := by
  cases he with
  | requestStop hst => exact requestStop_cyclesSound h hst
  | lastEdge ch hlast =>
    have hm : s.engine.state = .measuring := concludesLast_measuring hlast
    exact closeCycle_cyclesSound (s := edgeReached true ch s) _ _ h hm
  | takeStart src harmed =>
    obtain ⟨hcycle, hcount, htick, hbuffer, -, hrec⟩ := cyclesSound_elsewhere h (by simp [harmed]) (by simp [harmed])
    obtain ⟨-, ⟨-, -, -, -, hholdoff, -, hactive, -, hend⟩, hrun⟩ := h
    simp only [harmed, reduceCtorEq, iff_false, imp_false, Bool.not_eq_true, Option.isSome_eq_false_iff,
      Option.isNone_iff_eq_none] at hholdoff hactive hend
    exact openCycle_cyclesSound src
      ⟨⟨hcycle, hcount, htick, hbuffer, hactive, not_not.1 hend⟩, hholdoff, hrec, hrun (by simp [harmed])⟩
  | restart src hm => exact closeCycle_cyclesSound _ _ h hm
  | abortCycle hm => exact closeCycle_cyclesSound (s := requestStop s) _ _ (requestStop_cyclesSound h (.inl hm)) hm
  | expire hdue => exact closeCycle_cyclesSound _ _ h (windowDue_measuring hdue)
  | boundary hst =>
    obtain ⟨hcycle, hcount, htick, hbuffer, -, hrec⟩ := cyclesSound_elsewhere h (by simp [hst]) (by simp [hst])
    obtain ⟨-, ⟨-, -, -, -, -, hstop, hactive, -, hend⟩, hrun⟩ := h
    simp only [hst, reduceCtorEq, or_self, imp_false, Bool.not_eq_true] at hstop hactive hend
    exact boundarySequence_cyclesSound ⟨hcycle, hcount, htick, hbuffer, hactive, not_not.1 hend⟩ hstop hrec
      (hrun (by simp [hst]))
  | arm _ hidle ha => exact (armRun_cyclesSound h hidle).1 ha
  | armPending k rev p _ hidle _ _ => exact (armRun_cyclesSound h hidle).2 k rev p
  | leave reason hm hst =>
    obtain ⟨hcycle, hcount, htick, hbuffer, -, hrec⟩ := cyclesSound_elsewhere h hm hst
    exact leaveRun_cyclesSound reason hcycle hcount htick hbuffer hrec
  | giveUp r hst _ => exact giveUpHeld_cyclesSound h hst
  | applyIdle k rev p hidle _ =>
    obtain ⟨hcycle, -⟩ := cyclesSound_elsewhere h (by simp [hidle]) (by simp [hidle])
    obtain ⟨hacc, ⟨h1, hcount, htick, hbuffer, hholdoff, hstop, -, -, hend⟩, -⟩ := h
    exact ⟨hacc, ⟨h1, hcount, htick, hbuffer, hholdoff, hstop, fun _ => hidle, by simp [hcycle], hend⟩,
      fun hne => absurd hidle hne⟩
  | release n => exact offerHeld_cyclesSound (s := { s with queue := releaseRecords n s.queue }) h
  | _ => exact h

theorem advance_cyclesSound {s : State} (h : s.cyclesSound) : (advance s).cyclesSound := by
  obtain ⟨hacc, ⟨hcycle, hcount, htick, hbuffer, hholdoff, hrest⟩, hrun⟩ := h
  have ht : (advance s).time.counting = s.time.counting ∧ (advance s).time.tickRunning = s.time.tickRunning := by
    simp only [advance, tickTime]
    split
    · split <;> exact ⟨rfl, rfl⟩
    · exact ⟨rfl, rfl⟩
  refine ⟨hacc, ⟨hcycle, by rw [ht.1]; exact hcount, by rw [ht.2]; exact htick, hbuffer, ?_, hrest⟩, hrun⟩
  simpa [advance, timerTick] using hholdoff

/-- Settles O54: each start owes one record, each close pays it into a total or holds it in STALLED, and a run that goes on
has a cycle left. -/
theorem stepsKeepCyclesAccounted : Obligations.StepsKeepCyclesAccounted := fun _ _ hacc hshape hrun h =>
  step_keeps cyclesSound_readsBlocks h ⟨hacc, hshape, hrun⟩
    (show State.reset.cyclesSound by unfold State.cyclesSound; decide)
    effect_keeps_cyclesSound fun _ _ => advance_cyclesSound ⟨hacc, hshape, hrun⟩

end Sys2Proof.Machine
end

section
/-! PROOF. The channel units are kept as the engine state has them (Figure 3-1, Figure 4-1; R57 to R61, R71). A close leaves
every unit of the set concluded with its cycle closed, which is all that the after-close sequence needs; an entry of ARMED
primes the set whatever its units were. -/

namespace Sys2Proof.Machine

/-- The units of a channel set satisfy `fits`, and the others are OFF. -/
def unitsFit (fits : ChannelUnit → Prop) (set : ChannelSet) (units : Twelve ChannelUnit) : Prop :=
  ∀ i, (inSet set i = true → fits (units.get i)) ∧ (inSet set i = false → units.get i = ChannelUnit.offUnit)

/-- A unit once its cycle is closed: concluded, with no cycle open (R71). -/
def ChannelUnit.closed (u : ChannelUnit) : Prop := u.state.concluded = true ∧ u.cycleOpen = false

theorem unitsShaped_iff {s : State} :
    s.unitsShaped ↔ unitsFit (unitFits s.engine.state) s.profile.channelSet s.units := by
  simp only [State.unitsShaped, mem_channels, forall_const, unitsFit]
  refine forall_congr' fun i => ?_
  cases inSet s.profile.channelSet i <;> simp

theorem unitsFit.map {fits fits' : ChannelUnit → Prop} {set : ChannelSet} {units units' : Twelve ChannelUnit}
    (h : unitsFit fits set units) (hin : ∀ i, inSet set i = true → fits (units.get i) → fits' (units'.get i))
    (hout : ∀ i, inSet set i = false → units.get i = .offUnit → units'.get i = .offUnit) : unitsFit fits' set units' :=
  fun i => ⟨fun hi => hin i hi ((h i).1 hi), fun hi => hout i hi ((h i).2 hi)⟩

theorem unitsFit_allOff {fits : ChannelUnit → Prop} (h : fits .offUnit) (set : ChannelSet) :
    unitsFit fits set (Twelve.all ChannelUnit.offUnit) :=
  fun i => ⟨fun _ => by simpa using h, fun _ => by simp⟩

/-! ### Figure 3-1's last column, state by state -/

section
variable {u : ChannelUnit}

theorem unitFits_idle : unitFits .idle u ↔ u = ChannelUnit.offUnit := by simp [unitFits]

theorem unitFits_armed : unitFits .armed u ↔ u.state = .primed ∧ u.cycleOpen = false := by simp [unitFits]

theorem unitFits_measuring : unitFits .measuring u
    ↔ (u.state = .blanked ∨ u.state = .counting ∨ u.state = .done) ∧ u.cycleOpen = true := by simp [unitFits]

theorem unitFits_closed {e : EngineState} (h : e = .stalled ∨ e = .holdoff) : unitFits e u ↔ u.closed := by
  rcases h with rfl | rfl <;> simp [unitFits, ChannelUnit.closed]

/-! ### What reaches a single unit -/

@[simp] theorem unitEdge_offUnit (accepted : Bool) (t : Ticks) :
    unitEdge accepted t ChannelUnit.offUnit = ChannelUnit.offUnit := by
  cases accepted <;> rfl

@[simp] theorem endBlanking_offUnit (t : Ticks) : endBlanking t ChannelUnit.offUnit = ChannelUnit.offUnit := rfl

/-- An edge moves a unit from COUNTING to DONE at most, and never opens or closes its cycle. -/
theorem unitEdge_state (accepted : Bool) (t : Ticks) :
    (unitEdge accepted t u).cycleOpen = u.cycleOpen
      ∧ ((unitEdge accepted t u).state = u.state
        ∨ (accepted = true ∧ u.state = .counting ∧ (unitEdge accepted t u).state = .done)) := by
  cases accepted with
  | false =>
    unfold unitEdge rejectedEdge
    cases h : u.state <;> simp [h]
    split <;> simp [h]
  | true =>
    unfold unitEdge qualifiedEdge
    cases h : u.state <;> simp [h, countEdge]
    · exact (Classical.em _).symm
    · split <;> simp [h]

theorem unitFits_unitEdge {e : EngineState} (accepted : Bool) (t : Ticks) (h : unitFits e u) :
    unitFits e (unitEdge accepted t u) := by
  obtain ⟨hopen, hstate⟩ := unitEdge_state (u := u) accepted t
  cases e with
  | idle =>
    rw [unitFits_idle] at h ⊢
    rw [h, unitEdge_offUnit]
  | armed =>
    rw [unitFits_armed] at h ⊢
    rw [hopen]
    rcases hstate with hs | ⟨-, hs, -⟩ <;> simp_all
  | measuring =>
    rw [unitFits_measuring] at h ⊢
    rw [hopen]
    rcases hstate with hs | ⟨-, -, hs⟩ <;> simp_all
  | stalled =>
    rw [unitFits_closed (.inl rfl)] at h ⊢
    rcases hstate with hs | ⟨-, hs, -⟩ <;> simp_all [ChannelUnit.closed, UnitState.concluded]
  | holdoff =>
    rw [unitFits_closed (.inr rfl)] at h ⊢
    rcases hstate with hs | ⟨-, hs, -⟩ <;> simp_all [ChannelUnit.closed, UnitState.concluded]

/-- The end of the blanking moves a BLANKED unit, which only MEASURING has. -/
theorem unitFits_endBlanking {e : EngineState} (t : Ticks) (h : unitFits e u) : unitFits e (endBlanking t u) := by
  unfold endBlanking
  split
  · next hdue =>
    have hb : u.state = .blanked := by
      simp only [ChannelUnit.blankingDue, Bool.and_eq_true, decide_eq_true_eq] at hdue
      exact hdue.1.1
    cases e with
    | idle => rw [unitFits_idle.1 h] at hb; cases hb
    | armed => rw [(unitFits_armed.1 h).1] at hb; cases hb
    | measuring => exact unitFits_measuring.2 ⟨.inr (.inl rfl), (unitFits_measuring.1 h).2⟩
    | stalled => have hc := ((unitFits_closed (.inl rfl)).1 h).1; rw [hb] at hc; cases hc
    | holdoff => have hc := ((unitFits_closed (.inr rfl)).1 h).1; rw [hb] at hc; cases hc
  · exact h

theorem unitFits_startUnit (f : ChannelFields) : unitFits .measuring (startUnit f u) := by
  rw [unitFits_measuring]
  refine ⟨?_, rfl⟩
  unfold startUnit
  split <;> simp

/-- A cycle cut short, or expired, leaves each of its units concluded. -/
theorem conclude_concluded {e : Ending} (he : e ≠ .concluded) (h : unitFits .measuring u) :
    (e.conclude u).state.concluded = true := by
  rw [unitFits_measuring] at h
  cases e with
  | concluded => exact absurd rfl he
  | expired => rcases h.1 with hs | hs | hs <;> simp [Ending.conclude, concludeUnit, hs, UnitState.concluded]
  | cut reason => rcases h.1 with hs | hs | hs <;> simp [Ending.conclude, concludeUnit, hs, UnitState.concluded]

end

/-! ### Entries, starts and ends -/

section
variable {s : State}

theorem edgesWithin_units (s : State) (i : Channel) : ∃ edges : List HeldEdge, (edgesWithin s).units.get i
    = edges.foldl (fun u e => unitEdge e.accepted s.time.elapsed u) (s.units.get i) := by
  unfold edgesWithin
  split
  · simp only [receiveSome, judgeSome, Twelve.get_ofFn]
    by_cases hr : inSet (Config.edgesReceived s.choices) i = true
    · exact ⟨_, if_pos hr⟩
    · exact ⟨[], if_neg hr⟩
  · exact ⟨[], rfl⟩

theorem edgesWithin_unitsFit {e : EngineState} {set : ChannelSet} (h : unitsFit (unitFits e) set s.units) :
    unitsFit (unitFits e) set (edgesWithin s).units := by
  refine h.map (fun i _ hu => ?_) fun i _ hu => ?_ <;> obtain ⟨edges, he⟩ := edgesWithin_units s i <;> rw [he]
  · exact List.foldlRecOn edges _ hu fun u hu e _ => unitFits_unitEdge e.accepted s.time.elapsed hu
  · exact List.foldlRecOn (motive := fun u => u = ChannelUnit.offUnit) edges _ hu fun u hu e _ => by
      rw [hu, unitEdge_offUnit]

theorem armEngine_unitsFit (s : State) : unitsFit (unitFits .armed) s.profile.channelSet (armEngine s).units :=
  fun i => ⟨fun hi => by simp [armEngine, hi, unitFits_armed, primeUnit], fun hi => by simp [armEngine, hi]⟩

/-- A start taken by the units of the set, each then measuring. -/
theorem startUnits_unitsFit {p : Profile} {units : Twelve ChannelUnit} {fits : ChannelUnit → Prop}
    (h : unitsFit fits p.channelSet units) : unitsFit (unitFits .measuring) p.channelSet (startUnits p units)
      ∧ unitsFit (unitFits .measuring) p.channelSet (restartUnits p units) := by
  refine ⟨h.map (fun i hi _ => ?_) fun i hi hu => ?_, h.map (fun i hi _ => ?_) fun i hi hu => ?_⟩
  · simp only [get_startUnits, hi, if_true, unitFits_startUnit]
  · simpa [hi] using hu
  · simp only [get_restartUnits, hi, if_true, restartUnit, unitFits_startUnit]
  · simpa [hi] using hu

/-- An entry of ARMED shapes the units, whatever they were. -/
theorem enterArmed_unitsShaped (s : State) : (enterArmed s).unitsShaped := by
  have hp : (edgesWithin s).profile = s.profile := edgesWithin_profile s
  have harm := armEngine_unitsFit (edgesWithin s)
  unfold enterArmed
  simp only
  split
  · have hset : (armEngine (edgesWithin s)).profile = s.profile := hp
    refine unitsShaped_iff.2 ?_
    have hfit := edgesWithin_unitsFit (s := armEngine (edgesWithin s)) harm
    have hprof : (edgesWithin (armEngine (edgesWithin s))).profile = (edgesWithin s).profile := edgesWithin_profile _
    rw [← hprof] at hfit
    exact (startUnits_unitsFit hfit).1
  · exact unitsShaped_iff.2 harm

theorem leaveRun_unitsShaped (reason : RunEndReason) (s : State) : (leaveRun reason s).unitsShaped :=
  unitsShaped_iff.2 (unitsFit_allOff (unitFits_idle.2 rfl) _)

theorem boundarySequence_unitsShaped (s : State) : (boundarySequence s).state.unitsShaped := by
  unfold boundarySequence
  split <;> exact enterArmed_unitsShaped _

/-- From units all closed, the after-close sequence leads to a column of Figure 3-1. -/
theorem afterCloseSequence_unitsShaped (outcome : CycleOutcome) (restart : Option StartTaken)
    (h : unitsFit ChannelUnit.closed s.profile.channelSet s.units) :
    (afterCloseSequence outcome restart s).state.unitsShaped := by
  unfold afterCloseSequence
  simp only
  split
  · exact leaveRun_unitsShaped _ _
  split
  · exact leaveRun_unitsShaped _ _
  cases restart with
  | some src => exact unitsShaped_iff.2 (startUnits_unitsFit h).2
  | none =>
    simp only
    split
    · exact unitsShaped_iff.2 (h.map (fun _ _ hu => (unitFits_closed (.inr rfl)).2 hu) fun _ _ hu => hu)
    · exact boundarySequence_unitsShaped _

theorem requestAdmission_unitsShaped (r : ClosedRecord) (restart : Option StartTaken)
    (h : unitsFit ChannelUnit.closed s.profile.channelSet s.units) : (requestAdmission r restart s).unitsShaped := by
  unfold requestAdmission
  split
  · exact afterCloseSequence_unitsShaped (s := { s with queue := admitRecord r s.queue }) _ restart h
  · split
    · exact unitsShaped_iff.2 (h.map (fun _ _ hu => (unitFits_closed (.inl rfl)).2 hu) fun _ _ hu => hu)
    · exact afterCloseSequence_unitsShaped (s := { s with queue := countLoss s.queue }) _ restart h

/-- A close of units that its ending leaves concluded. -/
theorem closeCycle_unitsShaped {e : Ending} (restart : Option StartTaken) (hshape : s.engineShaped)
    (hm : s.engine.state = .measuring)
    (h : unitsFit (fun u => (e.conclude u).state.concluded = true) s.profile.channelSet s.units) :
    (closeCycle e restart s).unitsShaped := by
  obtain ⟨hcycle, -, -, -, -, -, -, hset, -⟩ := hshape
  obtain ⟨oc, hoc⟩ := Option.isSome_iff_exists.1 (hcycle.2 hm)
  have hset : oc.channelSet = s.profile.channelSet := hset oc hoc
  unfold closeCycle
  simp only [hoc]
  refine requestAdmission_unitsShaped _ _ (h.map (fun i hi hu => ?_) fun i hi hu => ?_)
  · simp only [stopCycle_units, get_mapUnits, hset, hi, if_true]
    exact ⟨hu, rfl⟩
  · simpa [hset, hi] using hu

/-! ### Every effect -/

/-- A record held in the close buffer is offered in STALLED, where the units are closed. -/
theorem offerHeld_unitsShaped (hshape : s.engineShaped) (h : s.unitsShaped) : (offerHeld s).unitsShaped := by
  unfold offerHeld
  split
  · exact h
  · next r hr =>
    split
    · obtain ⟨-, -, -, hbuffer, -⟩ := hshape
      have hst : s.engine.state = .stalled := hbuffer.1 (by simp [hr])
      rw [unitsShaped_iff, hst] at h
      exact afterCloseSequence_unitsShaped
        (s := { s.post _ with queue := _, engine := { s.engine with closeBuffer := none } })
        _ none (h.map (fun _ _ hu => (unitFits_closed (.inl rfl)).1 hu) fun _ _ hu => hu)
    · exact h

/-- An operation on one unit that keeps its place in Figure 3-1. -/
theorem setUnit_unitsShaped {f : ChannelUnit → ChannelUnit} (ch : Channel) (h : s.unitsShaped)
    (hfit : ∀ {u}, unitFits s.engine.state u → unitFits s.engine.state (f u))
    (hoff : f .offUnit = .offUnit) : State.unitsShaped { s with units := s.units.set ch (f (s.units.get ch)) } := by
  rw [unitsShaped_iff] at h ⊢
  refine h.map (fun i _ hu => ?_) fun i _ hu => ?_ <;> simp only [Twelve.get_set] <;> split
  · next hi => exact hfit (hi ▸ hu)
  · exact hu
  · next hi => rw [← hi, hu, hoff]
  · exact hu

theorem edgeReached_unitsShaped (accepted : Bool) (ch : Channel) (h : s.unitsShaped) :
    (edgeReached accepted ch s).unitsShaped :=
  setUnit_unitsShaped ch h (unitFits_unitEdge accepted s.time.elapsed) (unitEdge_offUnit _ _)

/-- Once the last unit has concluded, every unit of the set has. -/
theorem concludesLast_concluded {ch : Channel} (hshape : s.engineShaped) (h : s.concludesLast ch) {i : Channel}
    (hi : inSet s.profile.channelSet i = true) : ((edgeReached true ch s).units.get i).state.concluded = true := by
  obtain ⟨-, -, hm, hall⟩ := h
  obtain ⟨hcycle, -, -, -, -, -, -, hset, -⟩ := hshape
  obtain ⟨oc, hoc⟩ := Option.isSome_iff_exists.1 (hcycle.2 hm)
  simp only [State.allConcluded, hoc, allUnits_iff, hset oc hoc] at hall
  exact hall i hi

/-- A cycle cut short or expired, in MEASURING. -/
theorem closeCycle_forced_unitsShaped {e : Ending} (he : e ≠ .concluded) (restart : Option StartTaken)
    (hshape : s.engineShaped) (hm : s.engine.state = .measuring) (h : s.unitsShaped) :
    (closeCycle e restart s).unitsShaped := by
  rw [unitsShaped_iff, hm] at h
  exact closeCycle_unitsShaped restart hshape hm (h.map (fun _ _ hu => conclude_concluded he hu) fun _ _ hu => hu)

theorem requestStop_engineShaped (h : s.engineShaped) (hst : s.engine.state = .measuring ∨ s.engine.state = .stalled) :
    (requestStop s).engineShaped := by
  obtain ⟨hcycle, hcount, htick, hbuffer, hholdoff, -, hrest⟩ := h
  exact ⟨hcycle, hcount, htick, hbuffer, hholdoff, fun _ => hst, hrest⟩

end

theorem effect_keeps_unitsShaped {c : Instr} {s t : State} (he : Effect c s t) (hp : s.engineShaped ∧ s.unitsShaped) :
    t.unitsShaped := by
  obtain ⟨hshape, h⟩ := hp
  cases he with
  | edge ch accepted _ => exact edgeReached_unitsShaped accepted ch h
  | lastEdge ch hlast =>
    have hm : s.engine.state = .measuring := concludesLast_measuring hlast
    refine closeCycle_unitsShaped (s := edgeReached true ch s) none hshape hm fun i => ?_
    exact ⟨concludesLast_concluded hshape hlast, ((unitsShaped_iff.1 (edgeReached_unitsShaped true ch h)) i).2⟩
  | endBlanking ch =>
    exact setUnit_unitsShaped ch h (unitFits_endBlanking s.time.elapsed) (endBlanking_offUnit _)
  | takeStart src _ => exact unitsShaped_iff.2 (startUnits_unitsFit (unitsShaped_iff.1 h)).1
  | restart src hm => exact closeCycle_forced_unitsShaped (by simp) _ hshape hm h
  | abortCycle hm =>
    exact closeCycle_forced_unitsShaped (s := requestStop s) (by simp) _ (requestStop_engineShaped hshape (.inl hm)) hm h
  | expire hdue => exact closeCycle_forced_unitsShaped (by simp) _ hshape (windowDue_measuring hdue) h
  | boundary _ => exact boundarySequence_unitsShaped s
  | arm _ _ _ => exact enterArmed_unitsShaped _
  | armPending k rev p _ _ _ _ => exact enterArmed_unitsShaped _
  | leave reason _ _ => exact leaveRun_unitsShaped reason s
  | giveUp r _ _ => exact leaveRun_unitsShaped .aborted s
  | applyIdle k rev p hidle _ =>
    have hoff : s.units = Twelve.all ChannelUnit.offUnit := Twelve.ext_get fun i => by
      rw [unitsShaped_iff, hidle] at h
      rw [Twelve.get_all]
      by_cases hi : inSet s.profile.channelSet i = true
      · exact unitFits_idle.1 ((h i).1 hi)
      · exact (h i).2 (by simpa using hi)
    refine unitsShaped_iff.2 ?_
    rw [loadProfile_units, hoff]
    exact unitsFit_allOff (by simp [hidle, unitFits_idle]) _
  | release n => exact offerHeld_unitsShaped (s := { s with queue := releaseRecords n s.queue }) hshape h
  | _ => exact h

theorem unitsShaped_readsBlocks : readsBlocks State.unitsShaped := by
  intro s t hb h
  obtain ⟨-, he, hu, -, -⟩ := blocks_eq_iff.1 hb
  rw [unitsShaped_iff] at h ⊢
  simpa only [State.profile, he, hu] using h

theorem engineShaped_readsBlocks : readsBlocks State.engineShaped := by
  intro s t hb h
  obtain ⟨ht, he, -, -, -⟩ := blocks_eq_iff.1 hb
  simpa only [State.engineShaped, State.profile, ht, he] using h

/-- Settles O55: an edge keeps a unit in its column, a close concludes and closes the units of the set, and each way on
from there starts, primes or clears them. -/
theorem stepsKeepUnitsShaped : Obligations.StepsKeepUnitsShaped := fun _ _ hshape hunits h =>
  step_leads (P := fun s => s.engineShaped ∧ s.unitsShaped)
    (fun hb hp => ⟨engineShaped_readsBlocks hb hp.1, unitsShaped_readsBlocks hb hp.2⟩) unitsShaped_readsBlocks h
    ⟨hshape, hunits⟩ (by decide) effect_keeps_unitsShaped fun _ _ => hunits

end Sys2Proof.Machine
end

section
/-! PROOF. Every record the part holds is sound (R41, R43, R44, R72). While a cycle is open each of its units measures
soundly and one of them has not concluded; a close then builds a sound record, and what follows the close begins a cycle
afresh or holds no cycle. -/

namespace Sys2Proof.Machine

/-! ### A unit that measures -/

section
variable {u : ChannelUnit} {t : Ticks}

/-- Time passing keeps what a unit has measured (R72). -/
theorem measures_mono {t' : Ticks} (h : u.measures t) (ht : t.toNat ≤ t'.toNat) : u.measures t' := by
  obtain ⟨hcount, hblank, ⟨hfirst, hlast, horder, hlatest⟩, hrest⟩ := h
  exact ⟨hcount, fun hb => (hblank hb).trans ht, ⟨hfirst, hlast, horder, hlatest.trans ht⟩, hrest⟩

/-- A unit that has just started (R61). -/
theorem startUnit_measures {f : ChannelFields} (hq : 1 ≤ f.quota.toNat) : (startUnit f u).measures 0 := by
  have hne : ¬ f.quota = 0 := by
    rintro h
    rw [h] at hq
    exact absurd hq (by decide)
  have hstate : (startUnit f u).state = if f.blanking = 0 then .counting else .blanked := rfl
  refine ⟨⟨fun _ => rfl, fun _ => hq, fun h => ?_, hne⟩, fun h => ?_, by simp [startUnit, timesSound],
    fun h => absurd rfl h, by simp [startUnit, traceSound, ascendingTicks], fun _ => rfl⟩
  · rw [hstate] at h
    split at h <;> cases h
  · rw [hstate] at h
    split at h
    · next hb => exact (congrArg BitVec.toNat hb).le
    · exact absurd rfl h

/-- A list of times one longer by the latest. -/
theorem traceSound_append {l : List Ticks} {last : Ticks} (h : traceSound l last) (hlt : last.toNat ≤ t.toNat)
    (hlen : l.length < Config.traceDepth) : traceSound (l ++ [t]) t := by
  obtain ⟨-, hasc, hall⟩ := h
  have hle : ∀ x ∈ l, x.toNat ≤ t.toNat := fun x hx => by
    have hx' := List.all_eq_true.1 hall x hx
    exact (of_decide_eq_true hx').trans hlt
  refine ⟨by simpa using hlen, ?_, ?_⟩
  · exact List.pairwise_append.2 ⟨hasc, by simp, fun a ha b hb => by simpa using List.mem_singleton.1 hb ▸ hle a ha⟩
  · simpa using hle

theorem traceSound_mono {l : List Ticks} {last : Ticks} (h : traceSound l last) (hlt : last.toNat ≤ t.toNat) :
    traceSound l t := by
  obtain ⟨hlen, hasc, hall⟩ := h
  refine ⟨hlen, hasc, List.all_eq_true.2 fun x hx => decide_eq_true ?_⟩
  exact (of_decide_eq_true (List.all_eq_true.1 hall x hx)).trans hlt

/-- A counted edge, its time the latest (R64 to R66). -/
theorem countEdge_measures (h : u.measures t) (hs : u.state = .counting) : (countEdge t u).measures t := by
  obtain ⟨⟨-, hlt, -, hq⟩, hblank, ⟨hfirst, hlast, horder, hlatest⟩, hafter, htrace, hempty⟩ := h
  have hlt := hlt hs
  have hblank := hblank (by simp [hs])
  have hne : u.edgeCount + 1 ≠ 0 := by bv_omega
  have hfirst' : ((if u.edgeCount = 0 then some t else u.firstTicks).getD 0).toNat ≤ t.toNat := by
    split
    · exact le_refl _
    · exact horder.trans hlatest
  refine ⟨⟨?_, ?_, ?_, hq⟩, fun _ => hblank, ⟨?_, by simpa [countEdge] using hne, hfirst', le_refl _⟩, fun _ => ?_, ?_,
    fun h0 => absurd h0 hne⟩
  · simp only [countEdge]
    split <;> simp
  · simp only [countEdge]
    split
    · simp
    · intro _
      bv_omega
  · simp only [countEdge]
    split
    · exact fun _ => ‹_›
    · simp
  · simp only [countEdge, ne_eq, hne, not_false_eq_true, iff_true]
    split
    · rfl
    · exact hfirst.2 ‹_›
  · simp only [countEdge]
    split
    · exact hblank
    · exact hafter ‹_›
  · simp only [countEdge]
    split
    · next hlen =>
      simp only [Bool.and_eq_true, decide_eq_true_eq] at hlen
      exact traceSound_append htrace hlatest hlen.2
    · exact traceSound_mono htrace hlatest

/-- An edge of the present time keeps a unit measuring (R60, R62, R64, R67, R68). -/
theorem unitEdge_measures (accepted : Bool) (h : u.measures t) : (unitEdge accepted t u).measures t := by
  cases accepted with
  | false =>
    simp only [unitEdge, Bool.false_eq_true, if_false]
    unfold rejectedEdge
    split <;> try exact h
    split <;> exact h
  | true =>
    simp only [unitEdge, if_true]
    unfold qualifiedEdge
    split <;> try exact h
    · next hs => exact countEdge_measures h hs
    · split <;> exact h

/-- The blanking ends no earlier than at its delay (R62). -/
theorem endBlanking_measures (h : u.measures t) : (endBlanking t u).measures t := by
  unfold endBlanking
  split
  · next hdue =>
    simp only [ChannelUnit.blankingDue, Bool.and_eq_true, decide_eq_true_eq] at hdue
    obtain ⟨⟨hb, -, -, hq⟩, -, hrest⟩ := h
    have h0 : u.edgeCount = 0 := hb hdue.1.1
    refine ⟨⟨by simp, fun _ => ?_, by simp, hq⟩, fun _ => hdue.2, hrest⟩
    have hqn : u.quota.toNat ≠ 0 := fun h => hq (BitVec.eq_of_toNat_eq h)
    simp only [h0]
    exact Nat.pos_of_ne_zero hqn
  · exact h

theorem endBlanking_unconcluded (h : u.state.concluded = false) : (endBlanking t u).state.concluded = false := by
  unfold endBlanking
  split
  · rfl
  · exact h

/-! ### The entry of a concluded unit -/

/-- A unit of the open cycle's edge count and outcome agree (R65, R72). -/
theorem count_of_fits (h : u.countFits) (hf : unitFits .measuring u) :
    u.edgeCount.toNat ≤ u.quota.toNat ∧ (u.state = .done ↔ u.edgeCount = u.quota) := by
  obtain ⟨hblanked, hcounting, hdone, hq⟩ := h
  have hqn : u.quota.toNat ≠ 0 := fun h => hq (BitVec.eq_of_toNat_eq h)
  rcases (unitFits_measuring.1 hf).1 with hs | hs | hs
  · have h0 := hblanked hs
    simp only [h0, hs, reduceCtorEq, false_iff]
    exact ⟨Nat.zero_le _, fun h => hq h.symm⟩
  · have hlt := hcounting hs
    simp only [hs, reduceCtorEq, false_iff]
    exact ⟨hlt.le, fun h => by rw [h] at hlt; omega⟩
  · have heq := hdone hs
    simp [hs, heq]

/-- The entry of a unit that its cycle's end leaves with what it has measured (R72, R73). -/
theorem channelEntry_sound {w : ChannelUnit} (i : Channel) (h : u.measures t) (hf : unitFits .measuring u)
    (hw : w = { u with state := w.state, blankingTimer := w.blankingTimer })
    (ho : w.state.outcome = .done ↔ u.state = .done) : (channelEntry i w).sound t := by
  obtain ⟨hcount, -, ⟨hfirst, hlast, horder, hlatest⟩, -, htrace, -⟩ := h
  obtain ⟨hle, hdone⟩ := count_of_fits hcount hf
  rw [hw]
  refine ⟨hle, ho.trans hdone, ?_, ?_⟩
  · by_cases h0 : u.edgeCount = 0
    · simp [channelEntry, h0, timesSound]
    · simp only [channelEntry, h0, if_false]
      exact ⟨hfirst, hlast, horder, hlatest⟩
  · intro l hl
    simp only [channelEntry] at hl
    split at hl
    · cases hl
      exact traceSound_mono htrace hlatest
    · cases hl

/-- A unit not yet concluded is given its outcome; the others stay (R69, R70). -/
theorem concludeUnit_eq (how : UnitState) (hf : unitFits .measuring u) :
    concludeUnit how u = { u with state := (concludeUnit how u).state
                                  blankingTimer := (concludeUnit how u).blankingTimer }
      ∧ (concludeUnit how u).state = if u.state = .done then .done else how := by
  rcases (unitFits_measuring.1 hf).1 with hs | hs | hs
  · simp [concludeUnit, hs]
  · simp [concludeUnit, hs]
  · have hu : concludeUnit how u = u := by simp [concludeUnit, hs]
    rw [hu, if_pos hs]
    exact ⟨rfl, hs⟩

end

/-- What an ending makes of a unit of the set that is not DONE (R69, R70): a concluded cycle has none. -/
def Ending.forces : Ending → UnitState
  | .concluded => .done
  | .expired => .overrun
  | .cut _ => .aborted

/-! ### The record of a close -/

/-- The open cycle measured soundly up to its close: what a record is built from. -/
def OpenCycle.measured (elapsed : Ticks) (units : Twelve ChannelUnit) (oc : OpenCycle) : Prop :=
  elapsed.toNat ≤ oc.windowLimit.toNat
    ∧ (∀ i, inSet oc.channelSet i = true → (units.get i).measures elapsed ∧ unitFits .measuring (units.get i))
    ∧ (∃ i, inSet oc.channelSet i = true) ∧ oc.run ≠ 0 ∧ oc.index ≠ 0 ∧ oc.revision ≠ 0

/-- A unit of the set has not yet concluded. -/
def OpenCycle.unconcluded (units : Twelve ChannelUnit) (oc : OpenCycle) : Prop :=
  ∃ i, inSet oc.channelSet i = true ∧ (units.get i).state.concluded = false

/-- The way a cycle ends agrees with its units and its time (R40, R41). -/
def Ending.agrees (elapsed : Ticks) (units : Twelve ChannelUnit) (oc : OpenCycle) : Ending → Prop
  | .concluded => ∀ i, inSet oc.channelSet i = true → (units.get i).state.concluded = true
  | .expired => oc.unconcluded units ∧ oc.windowLimit.toNat ≤ elapsed.toNat
  | .cut _ => oc.unconcluded units

section
variable {oc : OpenCycle} {units : Twelve ChannelUnit} {t : Ticks}

theorem done_of_concluded {u : ChannelUnit} (hf : unitFits .measuring u) (h : u.state.concluded = true) :
    u.state = .done := by
  rcases (unitFits_measuring.1 hf).1 with hs | hs | hs
  · rw [hs] at h; cases h
  · rw [hs] at h; cases h
  · exact hs

/-- What each ending makes of the units of the set. -/
theorem conclude_state (e : Ending) (hm : oc.measured t units) (he : e.agrees t units oc) {i : Channel}
    (hi : inSet oc.channelSet i = true) :
    (e.conclude (units.get i)).state = if (units.get i).state = .done then .done else e.forces := by
  have hf := (hm.2.1 i hi).2
  cases e with
  | concluded => simp [Ending.conclude, done_of_concluded hf (he i hi)]
  | expired => exact (concludeUnit_eq .overrun hf).2
  | cut reason => exact (concludeUnit_eq .aborted hf).2

/-- An ending leaves what a unit has measured. -/
theorem conclude_keeps (e : Ending) {u : ChannelUnit} (hf : unitFits .measuring u) :
    e.conclude u = { u with state := (e.conclude u).state, blankingTimer := (e.conclude u).blankingTimer } := by
  cases e with
  | concluded => rfl
  | expired => exact (concludeUnit_eq .overrun hf).1
  | cut reason => exact (concludeUnit_eq .aborted hf).1

/-- The entries of a closed cycle, and their outcomes. -/
theorem mem_entries {f : Channel → ChannelUnit} {x : ChannelEntry} :
    x ∈ (setMembers oc.channelSet).map (fun i => channelEntry i (f i))
      ↔ ∃ i, inSet oc.channelSet i = true ∧ channelEntry i (f i) = x := by
  simp

/-- The outcome of a close is true of its entries (R43). -/
theorem outcomeSound_of_agrees {e : Ending} {r : CycleRecord} (hm : oc.measured t units) (he : e.agrees t units oc)
    (hout : r.outcome = e.outcome oc.channelSet (mapUnits oc.channelSet e.conclude units))
    (hentries : r.entries = (setMembers oc.channelSet).map fun i =>
      channelEntry i ((mapUnits oc.channelSet e.conclude units).get i))
    (hclose : r.closeTicks = t) (hlimit : r.windowLimit = oc.windowLimit) : r.outcomeSound := by
  have hstate : ∀ i, inSet oc.channelSet i = true → ((mapUnits oc.channelSet e.conclude units).get i).state
      = if (units.get i).state = .done then .done else e.forces := fun i hi => by
    rw [get_mapUnits, if_pos hi]
    exact conclude_state e hm he hi
  have hentry : ∀ x, x ∈ r.entries → ∃ i, inSet oc.channelSet i = true
      ∧ x.outcome = ((mapUnits oc.channelSet e.conclude units).get i).state.outcome := fun x hx => by
    rw [hentries, mem_entries] at hx
    obtain ⟨i, hi, rfl⟩ := hx
    exact ⟨i, hi, rfl⟩
  have hmem : ∀ i, inSet oc.channelSet i = true →
      ∃ x ∈ r.entries, x.outcome = ((mapUnits oc.channelSet e.conclude units).get i).state.outcome := fun i hi => by
    rw [hentries]
    exact ⟨_, mem_entries.2 ⟨i, hi, rfl⟩, rfl⟩
  have hnotDone : ∀ {i}, (units.get i).state.concluded = false → (units.get i).state ≠ .done := fun h hd => by
    rw [hd] at h
    cases h
  cases e with
  | concluded =>
    have hcomplete : r.outcome = .complete := by
      rw [hout, Ending.outcome, if_pos]
      exact (allUnits_iff _ _ _).2 fun i hi => by rw [hstate i hi]; split <;> rfl
    refine ⟨fun _ x hx => ?_, fun h => ?_, fun h => ?_⟩
    · obtain ⟨i, hi, ho⟩ := hentry x hx
      rw [ho, hstate i hi]
      split <;> rfl
    · rw [hcomplete] at h; cases h
    · rw [hcomplete] at h; rcases h with h | h <;> cases h
  | expired =>
    obtain ⟨⟨j, hj, hopen⟩, hexpired⟩ := he
    have hpartly : r.outcome = .partly := by
      rw [hout, Ending.outcome, if_neg]
      intro hall
      have hd := of_decide_eq_true ((allUnits_iff _ _ _).1 hall j hj)
      rw [hstate j hj, if_neg (hnotDone hopen)] at hd
      cases hd
    refine ⟨fun h => ?_, fun _ => ⟨?_, fun x hx => ?_, ?_⟩, fun h => ?_⟩
    · rw [hpartly] at h; cases h
    · rw [hclose, hlimit]
      exact BitVec.eq_of_toNat_eq (Nat.le_antisymm hm.1 hexpired)
    · obtain ⟨i, hi, ho⟩ := hentry x hx
      rw [ho, hstate i hi]
      split <;> simp [UnitState.outcome, Ending.forces]
    · obtain ⟨x, hx, ho⟩ := hmem j hj
      exact ⟨x, hx, by rw [ho, hstate j hj, if_neg (hnotDone hopen)]; rfl⟩
    · rw [hpartly] at h; rcases h with h | h <;> cases h
  | cut reason =>
    obtain ⟨j, hj, hopen⟩ := he
    have haborted : r.outcome = .aborted reason := hout
    refine ⟨fun h => ?_, fun h => ?_, fun _ => ⟨fun x hx => ?_, ?_⟩⟩
    · rw [haborted] at h; cases h
    · rw [haborted] at h; cases h
    · obtain ⟨i, hi, ho⟩ := hentry x hx
      rw [ho, hstate i hi]
      split <;> simp [UnitState.outcome, Ending.forces]
    · obtain ⟨x, hx, ho⟩ := hmem j hj
      exact ⟨x, hx, by rw [ho, hstate j hj, if_neg (hnotDone hopen)]; rfl⟩

theorem setMembers_ascending (set : ChannelSet) : (setMembers set).Pairwise fun a b => a.val < b.val :=
  List.Pairwise.filter _ (by decide)

/-- The record a close builds is sound (R42 to R44, R72). -/
theorem buildRecord_sound {e : Ending} {s : State} (hm : oc.measured s.time.elapsed units)
    (he : e.agrees s.time.elapsed units oc) (hs : s.units = mapUnits oc.channelSet e.conclude units) :
    (buildRecord e oc s).record.sound := by
  have hout := outcomeSound_of_agrees (r := (buildRecord e oc s).record) hm he (by rw [← hs]; rfl) (by rw [← hs]; rfl)
    rfl rfl
  have hstate := fun i hi => conclude_state e hm he (i := i) hi
  obtain ⟨hwindow, hunits, ⟨j, hj⟩, hrun, hindex, hrev⟩ := hm
  refine ⟨hwindow, ?_, ?_, fun x hx => ?_, hout, hrun, hindex, hrev⟩
  · exact List.ne_nil_of_mem (mem_entries.2 ⟨j, hj, rfl⟩)
  · simp only [buildRecord, List.map_map]
    exact List.pairwise_map.2 (setMembers_ascending _)
  · obtain ⟨i, hi, rfl⟩ := mem_entries.1 hx
    obtain ⟨hmeasures, hfits⟩ := hunits i hi
    have hget : s.units.get i = e.conclude (units.get i) := by rw [hs, get_mapUnits, if_pos hi]
    rw [hget]
    refine channelEntry_sound i hmeasures hfits (conclude_keeps e hfits) ⟨fun h => ?_, fun h => ?_⟩
    · by_contra hne
      rw [hstate i hi, if_neg hne] at h
      cases e with
      | concluded => exact hne (done_of_concluded hfits (he i hi))
      | expired => cases h
      | cut reason => cases h
    · rw [hstate i hi, if_pos h]
      rfl

end

/-! ### Between two cycles -/

/-- No cycle is open, the run has its number, the profiles are sound with one active, and the records held are sound: what
holds between a close and the after-close sequence, and at every arming boundary. -/
def State.recordsAtClose (s : State) : Prop :=
  s.engine.cycle = none ∧ s.engine.runNumber ≠ 0 ∧ s.engine.active ≠ none
    ∧ profilesSoundIn s.store s.engine.active ∧ (∀ r ∈ s.engine.closeBuffer, r.record.sound)
    ∧ ∀ e ∈ s.queue.entries, e.record.sound

section
variable {s : State}

/-- A channel set that is not empty has a member. -/
theorem exists_inSet {set : ChannelSet} (h : set ≠ 0) : ∃ i, inSet set i = true := by
  by_contra hn
  push Not at hn
  refine h (BitVec.eq_of_getLsbD_eq fun i hi => ?_)
  exact (Bool.eq_false_of_not_eq_true (hn ⟨i, hi⟩)).trans (by simp)

theorem satInc_ne_zero (x : BitVec 16) : satInc x ≠ 0 := by
  rw [satInc_word]
  split
  · decide
  · bv_omega

/-- A profile past the check has a channel in its set. -/
theorem exists_inSet_of_checked {rev : BitVec 16} {p : Profile} (h : checkedProfile rev p) :
    ∃ i, inSet p.channelSet i = true := by
  refine exists_inSet fun h0 => ?_
  have hcheck := h.2.1
  rw [checkProfile, if_pos h0] at hcheck
  cases hcheck

/-- A cycle begun, each unit of the set started. -/
theorem openCycle_recordsSound {src : StartTaken} {units : Twelve ChannelUnit} (h : s.recordsAtClose)
    (hu : ∀ i, inSet s.profile.channelSet i = true → ∃ u, units.get i = startUnit (s.profile.chans.get i) u) :
    ({ openCycle src s with units := units } : State).recordsSound := by
  obtain ⟨-, hrun, hactive, ⟨-, -, hchecked⟩, hbuffer, hqueue⟩ := h
  obtain ⟨a, ha⟩ := Option.ne_none_iff_exists'.1 hactive
  have hp := profile_of_active ha
  have hca := hchecked a ha
  refine ⟨fun oc hoc => ?_, fun _ => hrun, hbuffer, hqueue⟩
  obtain rfl : latchCycle src s = oc := Option.some.inj hoc
  have hmeasures : ∀ i, inSet s.profile.channelSet i = true →
      (units.get i).measures 0 ∧ (units.get i).state.concluded = false := fun i hi => by
    obtain ⟨u, hu⟩ := hu i hi
    rw [hu]
    refine ⟨startUnit_measures (hp ▸ hca.1.2.2.2 i (mem_channels i)), ?_⟩
    simp only [startUnit]
    split <;> rfl
  refine ⟨Nat.zero_le _, fun i _ hi => (hmeasures i hi).1, ?_, hrun, satInc_ne_zero _, ?_⟩
  · obtain ⟨i, hi⟩ := exists_inSet_of_checked hca
    rw [← hp] at hi
    exact ⟨i, mem_channels i, hi, (hmeasures i hi).2⟩
  · simpa [latchCycle, governing_of_active ha] using hca.2.2

theorem takeStart_recordsSound {src : StartTaken} (h : s.recordsAtClose) :
    (takeStart src s).recordsSound ∧ (takeRestart src s).recordsSound := by
  refine ⟨openCycle_recordsSound h fun i hi => ?_, openCycle_recordsSound h fun i hi => ?_⟩
  · exact ⟨_, by rw [get_startUnits, if_pos hi]⟩
  · exact ⟨_, by rw [get_restartUnits, if_pos hi, restartUnit]⟩

/-- With no cycle open, sound records are all there is to keep. -/
theorem recordsSound_of_closed {t : State} (hcycle : t.engine.cycle = none)
    (hrun : t.engine.state ≠ .idle → t.engine.runNumber ≠ 0) (hbuffer : ∀ r ∈ t.engine.closeBuffer, r.record.sound)
    (hqueue : ∀ e ∈ t.queue.entries, e.record.sound) : t.recordsSound :=
  ⟨by simp [hcycle], hrun, hbuffer, hqueue⟩

theorem edgesWithin_recordsAtClose (h : s.recordsAtClose) : (edgesWithin s).recordsAtClose := by
  simpa [State.recordsAtClose] using h

theorem enterArmed_recordsSound (h : s.recordsAtClose) : (enterArmed s).recordsSound := by
  have ha : (armEngine (edgesWithin s)).recordsAtClose := edgesWithin_recordsAtClose h
  unfold enterArmed
  simp only
  split
  · exact (takeStart_recordsSound (edgesWithin_recordsAtClose ha)).1
  · obtain ⟨hcycle, hrun, -, -, hbuffer, hqueue⟩ := ha
    exact recordsSound_of_closed hcycle (fun _ => hrun) hbuffer hqueue

theorem boundarySequence_recordsSound (h : s.recordsAtClose) : (boundarySequence s).state.recordsSound := by
  unfold boundarySequence
  split
  · exact enterArmed_recordsSound h
  · next k rev p hp =>
    obtain ⟨hcycle, -, -, hprof, hbuffer, hqueue⟩ := h
    exact enterArmed_recordsSound ⟨hcycle, wrapToOne_ne_zero _, by simp,
      profilesSoundIn_loaded hprof (pendingProfile_eq_some hp).2, hbuffer, hqueue⟩

theorem afterCloseSequence_recordsSound (outcome : CycleOutcome) (restart : Option StartTaken) (h : s.recordsAtClose) :
    (afterCloseSequence outcome restart s).state.recordsSound := by
  have hclose := h
  obtain ⟨hcycle, hrun, -, -, hbuffer, hqueue⟩ := h
  unfold afterCloseSequence
  simp only
  split
  · exact recordsSound_of_closed hcycle (fun hi => absurd rfl hi) hbuffer hqueue
  split
  · exact recordsSound_of_closed hcycle (fun hi => absurd rfl hi) hbuffer hqueue
  cases restart with
  | some src =>
    exact (takeStart_recordsSound (s := { s with engine := { s.engine with cyclesDone := satInc s.engine.cyclesDone } })
      hclose).2
  | none =>
    simp only
    split
    · exact recordsSound_of_closed hcycle (fun _ => hrun) hbuffer hqueue
    · exact boundarySequence_recordsSound
        (s := { s with engine := { s.engine with cyclesDone := satInc s.engine.cyclesDone } }) hclose

/-- A sound record joins the queue. -/
theorem admitRecord_records {r : ClosedRecord} {q : ResultQueue} (hr : r.record.sound)
    (hq : ∀ e ∈ q.entries, e.record.sound) : ∀ e ∈ (admitRecord r q).entries, e.record.sound := fun e he => by
  rcases List.mem_append.1 he with he | he
  · exact hq e he
  · rw [List.mem_singleton.1 he]
    exact hr

theorem recordsSound_readsBlocks : readsBlocks State.recordsSound := by
  intro s t hb h
  obtain ⟨ht, he, hu, -, hq⟩ := blocks_eq_iff.1 hb
  simpa only [State.recordsSound, ht, he, hu, hq] using h

theorem requestAdmission_recordsSound {r : ClosedRecord} (restart : Option StartTaken) (hr : r.record.sound)
    (h : s.recordsAtClose) : (requestAdmission r restart s).recordsSound := by
  obtain ⟨hcycle, hrun, hactive, hprof, hbuffer, hqueue⟩ := h
  unfold requestAdmission
  split
  · exact recordsSound_readsBlocks (passAll_blocks _ _).symm <| afterCloseSequence_recordsSound _ restart
      ⟨hcycle, hrun, hactive, hprof, hbuffer, admitRecord_records hr hqueue⟩
  · split
    · exact recordsSound_of_closed hcycle (fun _ => hrun) (by simpa [stallWith] using hr) hqueue
    · exact recordsSound_readsBlocks rfl <| afterCloseSequence_recordsSound r.record.outcome restart
        (s := { s with queue := countLoss s.queue }) ⟨hcycle, hrun, hactive, hprof, hbuffer, hqueue⟩

/-! ### Every effect -/

/-- What the invariants of the measuring blocks say together of a state before a step. -/
def State.sound (s : State) : Prop := s.engineShaped ∧ s.unitsShaped ∧ s.profilesSound ∧ s.recordsSound

/-- Outside MEASURING no cycle is open; outside IDLE a run and its profile stand. -/
theorem recordsAtClose_of_sound (h : s.sound) (hm : s.engine.state ≠ .measuring) (hi : s.engine.state ≠ .idle) :
    s.recordsAtClose := by
  obtain ⟨⟨hcycle, -, -, -, -, -, hactive, -⟩, -, hprof, -, hrun, hbuffer, hqueue⟩ := h
  refine ⟨?_, hrun hi, fun hn => hi (hactive hn), profilesSound_iff.1 hprof, hbuffer, hqueue⟩
  simpa [hm] using hcycle

/-- In MEASURING a cycle is open, its set that of the active profile, and its units measure. -/
theorem measured_of_sound (h : s.sound) (hm : s.engine.state = .measuring) :
    ∃ oc, s.engine.cycle = some oc ∧ oc.channelSet = s.profile.channelSet ∧ oc.measured s.time.elapsed s.units
      ∧ oc.unconcluded s.units := by
  obtain ⟨⟨hcycle, -, -, -, -, -, -, hset, -⟩, hunits, -, hrec, -⟩ := h
  obtain ⟨oc, hoc⟩ := Option.isSome_iff_exists.1 (hcycle.2 hm)
  obtain ⟨hwindow, hmeasures, ⟨j, -, hj, hopen⟩, hrun, hindex, hrev⟩ := hrec oc hoc
  rw [unitsShaped_iff, hm, ← hset oc hoc] at hunits
  exact ⟨oc, hoc, hset oc hoc, ⟨hwindow, fun i hi => ⟨hmeasures i (mem_channels i) hi, (hunits i).1 hi⟩, ⟨j, hj⟩, hrun,
    hindex, hrev⟩, j, hj, hopen⟩

/-- A close of a cycle that has been measured soundly up to its end. -/
theorem closeCycle_recordsSound {e : Ending} {restart : Option StartTaken} {oc : OpenCycle}
    (hoc : s.engine.cycle = some oc) (hm : oc.measured s.time.elapsed s.units) (he : e.agrees s.time.elapsed s.units oc)
    (h : (stopCycle oc s).recordsAtClose) : (closeCycle e restart s).recordsSound := by
  unfold closeCycle
  simp only [hoc]
  exact requestAdmission_recordsSound restart
    (buildRecord_sound (s := { s with units := mapUnits oc.channelSet e.conclude s.units }) hm he rfl) h

theorem stopCycle_recordsAtClose (h : s.sound) (hm : s.engine.state = .measuring) (oc : OpenCycle) :
    (stopCycle oc s).recordsAtClose := by
  obtain ⟨⟨-, -, -, -, -, -, hactive, -⟩, -, hprof, -, hrun, hbuffer, hqueue⟩ := h
  refine ⟨rfl, hrun (by simp [hm]), fun hn => ?_, profilesSound_iff.1 hprof, hbuffer, hqueue⟩
  rw [hactive hn] at hm
  cases hm

theorem closeCycle_cut_recordsSound {reason : AbortReason} {restart : Option StartTaken} (h : s.sound)
    (hm : s.engine.state = .measuring) : (closeCycle (.cut reason) restart s).recordsSound := by
  obtain ⟨oc, hoc, -, hmeasured, hopen⟩ := measured_of_sound h hm
  exact closeCycle_recordsSound hoc hmeasured hopen (stopCycle_recordsAtClose h hm oc)

theorem windowDue_elapsed {oc : OpenCycle} (h : s.windowDue = true) (hoc : s.engine.cycle = some oc) :
    oc.windowLimit.toNat ≤ s.time.elapsed.toNat := by
  simp only [State.windowDue, hoc, Bool.and_eq_true, decide_eq_true_eq] at h
  exact h.2

theorem closeCycle_expired_recordsSound (h : s.sound) (hdue : s.windowDue = true) :
    (closeCycle .expired none s).recordsSound := by
  have hm := windowDue_measuring hdue
  obtain ⟨oc, hoc, -, hmeasured, hopen⟩ := measured_of_sound h hm
  exact closeCycle_recordsSound hoc hmeasured ⟨hopen, windowDue_elapsed hdue hoc⟩ (stopCycle_recordsAtClose h hm oc)

/-- The open cycle goes on measuring after an edge at the present time. -/
theorem edgeReached_measured {accepted : Bool} {ch : Channel} {oc : OpenCycle} (h : oc.measured s.time.elapsed s.units) :
    oc.measured s.time.elapsed (edgeReached accepted ch s).units := by
  obtain ⟨hwindow, hunits, hrest⟩ := h
  refine ⟨hwindow, fun i hi => ?_, hrest⟩
  obtain ⟨hmeasures, hfits⟩ := hunits i hi
  simp only [edgeReached, Twelve.get_set]
  split
  · next hich =>
    subst hich
    exact ⟨unitEdge_measures accepted hmeasures, unitFits_unitEdge accepted _ hfits⟩
  · exact ⟨hmeasures, hfits⟩

theorem closeCycle_concluded_recordsSound {ch : Channel} (h : s.sound) (hlast : s.concludesLast ch) :
    (closeCycle .concluded none (edgeReached true ch s)).recordsSound := by
  have hm : s.engine.state = .measuring := concludesLast_measuring hlast
  obtain ⟨oc, hoc, hset, hmeasured, -⟩ := measured_of_sound h hm
  exact closeCycle_recordsSound (s := edgeReached true ch s) hoc (edgeReached_measured hmeasured)
    (fun i hi => concludesLast_concluded h.1 hlast (hset ▸ hi)) (stopCycle_recordsAtClose h hm oc)

/-- An edge that is not the last conclusion leaves a unit of the set unconcluded. -/
theorem edgeReached_unconcluded {accepted : Bool} {ch : Channel} {oc : OpenCycle} (hoc : s.engine.cycle = some oc)
    (hm : s.engine.state = .measuring) (hopen : oc.unconcluded s.units)
    (hlast : accepted = true → ¬ s.concludesLast ch) : oc.unconcluded (edgeReached accepted ch s).units := by
  obtain ⟨j, hj, hjopen⟩ := hopen
  by_cases hjc : j = ch
  · subst hjc
    obtain ⟨-, hstate⟩ := unitEdge_state (u := s.units.get j) accepted s.time.elapsed
    rcases hstate with hs | ⟨rfl, hs, hdone⟩
    · exact ⟨j, hj, by simp [edgeReached, hs, hjopen]⟩
    · have hall : ¬ (edgeReached true j s).allConcluded = true := fun hall =>
        hlast rfl ⟨by simp [hs], hdone, hm, hall⟩
      have hoc' : (edgeReached true j s).engine.cycle = some oc := hoc
      simp only [State.allConcluded, hoc', allUnits_iff] at hall
      push Not at hall
      obtain ⟨i, hi, hiopen⟩ := hall
      exact ⟨i, hi, by simpa using hiopen⟩
  · exact ⟨j, hj, by simpa [edgeReached, Twelve.get_set, hjc] using hjopen⟩

/-- An operation on a unit that leaves the open cycle measuring with a unit unconcluded, and everything else alone. -/
theorem recordsSound_setUnits {units : Twelve ChannelUnit} (h : s.sound)
    (hunits : ∀ oc, s.engine.cycle = some oc → s.engine.state = .measuring → oc.measured s.time.elapsed s.units →
      oc.unconcluded s.units → oc.measured s.time.elapsed units ∧ oc.unconcluded units) :
    State.recordsSound { s with units := units } := by
  obtain ⟨-, hrest⟩ := h.2.2.2
  refine ⟨fun oc hoc => ?_, hrest⟩
  have hm : s.engine.state = .measuring := h.1.1.1 (by simp [show s.engine.cycle = some oc from hoc])
  obtain ⟨oc', hoc', -, hmeasured, hopen⟩ := measured_of_sound h hm
  obtain rfl : oc' = oc := Option.some.inj (hoc'.symm.trans hoc)
  obtain ⟨⟨hwindow, hmeasures, -, hnumbers⟩, j, hj, hjopen⟩ := hunits oc' hoc hm hmeasured hopen
  exact ⟨hwindow, fun i _ hi => (hmeasures i hi).1, ⟨j, mem_channels j, hj, hjopen⟩, hnumbers⟩

theorem edgeReached_recordsSound {accepted : Bool} {ch : Channel} (h : s.sound)
    (hlast : accepted = true → ¬ s.concludesLast ch) : (edgeReached accepted ch s).recordsSound :=
  recordsSound_setUnits h fun _ hoc hm hmeasured hopen =>
    ⟨edgeReached_measured hmeasured, edgeReached_unconcluded hoc hm hopen hlast⟩

theorem endBlanking_recordsSound (ch : Channel) (h : s.sound) :
    State.recordsSound { s with units := s.units.set ch (endBlanking s.time.elapsed (s.units.get ch)) } := by
  refine recordsSound_setUnits h fun oc _ _ hmeasured hopen => ⟨?_, ?_⟩
  · obtain ⟨hwindow, hunits, hrest⟩ := hmeasured
    refine ⟨hwindow, fun i hi => ?_, hrest⟩
    obtain ⟨hmeasures, hfits⟩ := hunits i hi
    rw [Twelve.get_set]
    split
    · next hich =>
      subst hich
      exact ⟨endBlanking_measures hmeasures, unitFits_endBlanking _ hfits⟩
    · exact ⟨hmeasures, hfits⟩
  · obtain ⟨j, hj, hjopen⟩ := hopen
    refine ⟨j, hj, ?_⟩
    rw [Twelve.get_set]
    split
    · next hjc => exact endBlanking_unconcluded (hjc ▸ hjopen)
    · exact hjopen

/-- A run begun by ARM, under the active profile or the one applied first. -/
theorem armRun_recordsSound (h : s.sound) (hidle : s.engine.state = .idle) :
    (s.engine.active.isSome = true → (armRun s).recordsSound)
      ∧ ∀ k rev p, s.store.slots.get k = .ready rev p → (armRun (loadProfile k rev p s)).recordsSound := by
  obtain ⟨⟨hcycle, -⟩, -, hprof, -, -, hbuffer, hqueue⟩ := h
  have hnone : s.engine.cycle = none := by simpa [hidle] using hcycle
  refine ⟨fun ha => ?_, fun k rev p hk => ?_⟩
  · have hactive : s.engine.active ≠ none := Option.isSome_iff_ne_none.1 ha
    exact enterArmed_recordsSound ⟨hnone, wrapToOne_ne_zero _, hactive, profilesSound_iff.1 hprof, hbuffer, hqueue⟩
  · exact enterArmed_recordsSound ⟨hnone, wrapToOne_ne_zero _, by simp,
      profilesSoundIn_loaded (profilesSound_iff.1 hprof) hk, hbuffer, hqueue⟩

/-- The held record is admitted, or stays held. -/
theorem offerHeld_recordsSound (h : s.sound) : (offerHeld s).recordsSound := by
  unfold offerHeld
  split
  · exact h.2.2.2
  · next r hr =>
    split
    · have hst : s.engine.state = .stalled := h.1.2.2.2.1.1 (by simp [hr])
      obtain ⟨hcycle, hrun, hactive, hprof, hbuffer, hqueue⟩ :=
        recordsAtClose_of_sound h (by simp [hst]) (by simp [hst])
      exact recordsSound_readsBlocks (passAll_blocks _ _).symm <| afterCloseSequence_recordsSound _ none
        ⟨hcycle, hrun, hactive, hprof, by simp, admitRecord_records (hbuffer r hr) hqueue⟩
    · exact h.2.2.2

theorem markDelivered_records (n : Nat) {q : ResultQueue} (h : ∀ e ∈ q.entries, e.record.sound) :
    ∀ e ∈ (markDelivered n q).entries, e.record.sound := fun e he => by
  obtain ⟨i, hi⟩ := List.mem_iff_getElem?.1 he
  simp only [markDelivered, List.getElem?_modify] at hi
  obtain ⟨w, hw, rfl⟩ := Option.map_eq_some_iff.1 hi
  have hsound := h w (List.mem_of_getElem? hw)
  split <;> exact hsound

end

theorem effect_keeps_recordsSound {c : Instr} {s t : State} (he : Effect c s t) (h : s.sound) : t.recordsSound := by
  cases he with
  | edge ch accepted hlast => exact edgeReached_recordsSound h hlast
  | lastEdge ch hlast => exact closeCycle_concluded_recordsSound h hlast
  | endBlanking ch => exact endBlanking_recordsSound ch h
  | takeStart src harmed =>
    exact (takeStart_recordsSound (recordsAtClose_of_sound h (by simp [harmed]) (by simp [harmed]))).1
  | restart src hm => exact closeCycle_cut_recordsSound h hm
  | abortCycle hm =>
    exact closeCycle_cut_recordsSound (s := requestStop s) ⟨requestStop_engineShaped h.1 (.inl hm), h.2⟩ hm
  | expire hdue => exact closeCycle_expired_recordsSound h hdue
  | boundary hst => exact boundarySequence_recordsSound (recordsAtClose_of_sound h (by simp [hst]) (by simp [hst]))
  | arm _ hidle ha => exact (armRun_recordsSound h hidle).1 ha
  | armPending k rev p _ hidle _ hk => exact (armRun_recordsSound h hidle).2 k rev p hk
  | leave reason hm _ =>
    obtain ⟨⟨hcycle, -⟩, -, -, -, -, hbuffer, hqueue⟩ := h
    exact recordsSound_of_closed (by simpa [hm] using hcycle) (fun hi => absurd rfl hi) hbuffer hqueue
  | giveUp r hst _ =>
    obtain ⟨⟨hcycle, -⟩, -, -, -, -, -, hqueue⟩ := h
    have hnone : s.engine.cycle = none := by simpa [hst] using hcycle
    exact recordsSound_of_closed hnone (fun hi => absurd rfl hi) (by simp [giveUpHeld]) hqueue
  | markDelivered n => exact ⟨h.2.2.2.1, h.2.2.2.2.1, h.2.2.2.2.2.1, markDelivered_records n h.2.2.2.2.2.2⟩
  | release n =>
    obtain ⟨hshape, hunits, hprof, hcycle, hrun, hbuffer, hqueue⟩ := h
    exact offerHeld_recordsSound (s := { s with queue := releaseRecords n s.queue })
      ⟨hshape, hunits, hprof, hcycle, hrun, hbuffer, fun e he => hqueue e (List.mem_of_mem_drop he)⟩
  | _ => exact h.2.2.2

/-! ### A base period -/

/-- While something is due, no base period passes; so in one that does, the window limit lies ahead (R41). -/
theorem elapsed_lt_of_nothing_due {s : State} {oc : OpenCycle} (hl : s.live = true) (hi : internals s = [])
    (hshape : s.engineShaped) (hoc : s.engine.cycle = some oc) : s.time.elapsed.toNat < oc.windowLimit.toNat := by
  obtain ⟨hcycle, hcount, -⟩ := hshape
  have hm : s.engine.state = .measuring := hcycle.1 (by simp [hoc])
  have hdue : s.windowDue = false := by
    by_contra hd
    simp only [internals, hl, if_true, List.append_eq_nil_iff, List.map_eq_nil_iff, dueExpiries] at hi
    simp_all
  simpa [State.windowDue, hoc, hm, hcount.2 hm] using hdue

/-- One base period adds at most one tick. -/
theorem advance_elapsed (s : State) :
    (advance s).time.elapsed = s.time.elapsed ∨ (advance s).time.elapsed = s.time.elapsed + 1 := by
  simp only [advance, tickTime]
  split
  · split
    · split
      · exact .inr rfl
      · exact .inl rfl
    · exact .inl rfl
  · exact .inl rfl

theorem advance_recordsSound {s : State} (h : s.sound) (hl : s.live = true) (hi : internals s = []) :
    (advance s).recordsSound := by
  obtain ⟨hshape, -, -, hcycle, hrest⟩ := h
  refine ⟨fun oc hoc => ?_, hrest⟩
  obtain ⟨hwindow, hmeasures, hnext⟩ := hcycle oc hoc
  have hlt := elapsed_lt_of_nothing_due hl hi hshape hoc
  have hsucc : (s.time.elapsed + 1).toNat = s.time.elapsed.toNat + 1 := by
    have := oc.windowLimit.isLt
    bv_omega
  rcases advance_elapsed s with he | he <;> rw [he]
  · exact ⟨hwindow, hmeasures, hnext⟩
  · exact ⟨by omega, fun i hc hi => measures_mono (hmeasures i hc hi) (by omega), hnext⟩

theorem sound_readsBlocks : readsBlocks State.sound := fun hb h =>
  ⟨engineShaped_readsBlocks hb h.1, unitsShaped_readsBlocks hb h.2.1, by
    obtain ⟨-, he, -, hs, -⟩ := blocks_eq_iff.1 hb
    exact profilesSound_iff.2 (he ▸ hs ▸ profilesSound_iff.1 h.2.2.1), recordsSound_readsBlocks hb h.2.2.2⟩

/-- Settles O59: a unit's counts and times are sound at every tick of its cycle, so the record of any close is. -/
theorem stepsKeepRecordsSound : Obligations.StepsKeepRecordsSound := fun _ _ hshape hunits hprof hrec h =>
  step_leads sound_readsBlocks recordsSound_readsBlocks h ⟨hshape, hunits, hprof, hrec⟩ (by decide)
    effect_keeps_recordsSound (advance_recordsSound ⟨hshape, hunits, hprof, hrec⟩)

end Sys2Proof.Machine
end

section
/-! PROOF. The engine leaves IDLE by ARM alone, and a command gives out at most one cycle number (R2, R28, R29): each effect
of a command on the measuring blocks keeps the cycle counter, or begins one cycle. -/

namespace Sys2Proof.Machine

/-! ### Leaving IDLE (R28) -/

/-- No effect leaves IDLE, but those of ARM. -/
theorem Effect.keeps_idle {c : Instr} {s t : State} (h : Effect c s t) (hshaped : s.engineShaped)
    (hidle : s.engine.state = .idle) (ht : t.engine.state ≠ .idle) : c = .arm := by
  have hbuffer : s.engine.closeBuffer = none := by
    obtain ⟨-, -, -, hb, -⟩ := hshaped
    cases hc : s.engine.closeBuffer with
    | none => rfl
    | some r => simp [hc, hidle] at hb
  cases h with
  | nothing | counts | edge | endBlanking | setSlot | select | applyIdle | markDelivered => exact absurd hidle ht
  | requestStop hs => simp [hidle] at hs
  | lastEdge ch hl => exact absurd (hidle.symm.trans hl.2.2.1) (by decide)
  | takeStart src hs | restart src hs | abortCycle hs | boundary hs => exact absurd (hidle.symm.trans hs) (by decide)
  | giveUp r hs => exact absurd (hidle.symm.trans hs) (by decide)
  | expire hd =>
    unfold State.windowDue at hd
    split at hd
    · simp at hd
    · simp [hidle] at hd
  | arm hc => exact hc
  | armPending k rev p hc => exact hc
  | leave reason => exact absurd rfl ht
  | release n =>
    rw [offerHeld_none (s := { s with queue := releaseRecords n s.queue }) hbuffer] at ht
    exact absurd hidle ht

/-! ### The cycle counter (R2, R29) -/

/-- The epoch stays, and the cycle counter stays or gives the number of the cycle that begins. -/
def countsCycle (s t : State) : Prop :=
  t.time.epoch = s.time.epoch
    ∧ (t.engine.cycleCounter = s.engine.cycleCounter
      ∨ (t.engine.cycleCounter = s.engine.cycleCounter + 1 ∧ t.engine.overlaps = 0
        ∧ ∃ oc, t.engine.cycle = some oc ∧ oc.number = t.engine.cycleCounter ∧ oc.stamp = s.time.epoch))

section
variable {s t u : State}

theorem countsCycle_keeps (he : t.time.epoch = s.time.epoch) (hc : t.engine.cycleCounter = s.engine.cycleCounter) :
    countsCycle s t := ⟨he, .inl hc⟩

/-- What comes before neither moves the epoch nor gives out a number. -/
theorem countsCycle_before (h : countsCycle u t) (he : u.time.epoch = s.time.epoch)
    (hc : u.engine.cycleCounter = s.engine.cycleCounter) : countsCycle s t := by
  unfold countsCycle at h ⊢
  rwa [he, hc] at h

end

theorem takeStart_countsCycle (src : StartTaken) (s : State) : countsCycle s (takeStart src s) :=
  ⟨rfl, .inr ⟨rfl, rfl, _, rfl, rfl, rfl⟩⟩

theorem takeRestart_countsCycle (src : StartTaken) (s : State) : countsCycle s (takeRestart src s) :=
  ⟨rfl, .inr ⟨rfl, rfl, _, rfl, rfl, rfl⟩⟩

theorem enterArmed_countsCycle (s : State) : countsCycle s (enterArmed s) := by
  have hepoch : (edgesWithin (armEngine (edgesWithin s))).time.epoch = s.time.epoch := by simp
  have hcounter : (edgesWithin (armEngine (edgesWithin s))).engine.cycleCounter = s.engine.cycleCounter := by
    simp [armEngine]
  unfold enterArmed
  simp only
  split
  · exact countsCycle_before (takeStart_countsCycle _ _) hepoch hcounter
  · exact countsCycle_keeps (by simp) (by simp [armEngine])

theorem boundarySequence_countsCycle (s : State) : countsCycle s (boundarySequence s).state := by
  unfold boundarySequence
  split
  · exact enterArmed_countsCycle s
  · exact countsCycle_before (enterArmed_countsCycle _) rfl rfl

theorem afterCloseSequence_countsCycle (outcome : CycleOutcome) (restart : Option StartTaken) (s : State) :
    countsCycle s (afterCloseSequence outcome restart s).state := by
  unfold afterCloseSequence
  simp only
  split
  · exact countsCycle_keeps rfl rfl
  · split
    · exact countsCycle_keeps rfl rfl
    · split
      · exact countsCycle_before (takeRestart_countsCycle _ _) rfl rfl
      · split
        · exact countsCycle_keeps rfl rfl
        · exact countsCycle_before (boundarySequence_countsCycle _) rfl rfl

theorem afterClose_countsCycle (outcome : CycleOutcome) (restart : Option StartTaken) (s : State) :
    countsCycle s (afterClose outcome restart s) := afterCloseSequence_countsCycle outcome restart s

theorem requestAdmission_countsCycle (r : ClosedRecord) (restart : Option StartTaken) (s : State) :
    countsCycle s (requestAdmission r restart s) := by
  unfold requestAdmission
  split
  · exact countsCycle_before (afterClose_countsCycle _ _ _) rfl rfl
  · split
    · exact countsCycle_keeps rfl rfl
    · exact countsCycle_before (afterCloseSequence_countsCycle r.record.outcome restart { s with queue := countLoss s.queue })
        rfl rfl

theorem closeCycle_countsCycle (e : Ending) (restart : Option StartTaken) (s : State) :
    countsCycle s (closeCycle e restart s) := by
  unfold closeCycle
  split
  · exact countsCycle_keeps rfl rfl
  · exact countsCycle_before (requestAdmission_countsCycle _ _ _) rfl rfl

theorem offerHeld_countsCycle (s : State) : countsCycle s (offerHeld s) := by
  unfold offerHeld
  split
  · exact countsCycle_keeps rfl rfl
  · split
    · exact countsCycle_before (afterClose_countsCycle _ _ _) rfl rfl
    · exact countsCycle_keeps rfl rfl

theorem armRun_countsCycle (s : State) : countsCycle s (armRun s) :=
  countsCycle_before (enterArmed_countsCycle _) rfl rfl

theorem Effect.countsCycle {c : Instr} {s t : State} (h : Effect c s t) : countsCycle s t := by
  cases h with
  | nothing | counts | requestStop | edge | endBlanking | leave | giveUp | setSlot | select | applyIdle | markDelivered =>
    exact countsCycle_keeps rfl rfl
  | lastEdge => exact countsCycle_before (closeCycle_countsCycle _ _ _) rfl rfl
  | takeStart src => exact takeStart_countsCycle src s
  | restart | expire => exact closeCycle_countsCycle _ _ s
  | abortCycle => exact countsCycle_before (closeCycle_countsCycle _ _ _) rfl rfl
  | boundary => exact boundarySequence_countsCycle s
  | arm => exact armRun_countsCycle s
  | armPending => exact countsCycle_before (armRun_countsCycle _) rfl rfl
  | release => exact countsCycle_before (offerHeld_countsCycle _) rfl rfl

theorem hasEffect.countsCycle {c : Instr} {s t : State} (h : hasEffect c s t) : countsCycle s t := by
  obtain ⟨u, v, hu, he, ht⟩ := h
  obtain ⟨htime, hengine, -⟩ := blocks_eq_iff.mp hu
  obtain ⟨htime', hengine', -⟩ := blocks_eq_iff.mp ht
  have hcounts := he.countsCycle
  unfold Machine.countsCycle at hcounts ⊢
  rwa [htime, hengine, ← htime', ← hengine'] at hcounts

/-- Settles O60: the effects of a command, one by one. -/
theorem onlyArmLeavesIdleAndCountersCount : Obligations.OnlyArmLeavesIdleAndCountersCount := by
  refine ⟨fun s t c hshaped hidle h ht => ?_, fun s t c hrelease hrequest hpin h => ?_⟩
  · obtain ⟨-, hr⟩ | ⟨u, v, hu, he, hv⟩ := exec_hasEffect h
    · have hengine : t.engine = Engine.atReset := congrArg Blocks.engine hr
      exact absurd (by rw [hengine]; rfl) ht
    · have hengine : s.engine = u.engine := congrArg Blocks.engine hu.symm
      have hengine' : t.engine = v.engine := congrArg Blocks.engine hv
      exact he.keeps_idle (engineShaped_readsBlocks hu.symm hshaped) (hengine ▸ hidle) (hengine' ▸ ht)
  · obtain ⟨hr, -⟩ | he := exec_hasEffect h
    · cases c with
      | pinReset => exact absurd rfl hpin
      | resetNRelease b1 b0 => exact absurd rfl (hrelease b1 b0)
      | requestReset b1 b0 => exact absurd rfl (hrequest b1 b0)
      | _ => cases hr
    · exact he.countsCycle

end Sys2Proof.Machine
end

section
/-! PROOF. Transitions on the measurement inputs, and the starts they and START requests make. A transition is sampled, its
line at the new level, then judged, then received (R14, R17, R23, R24); each stage is described once. A start event taken
begins a cycle or closes the open one (Table 3-3). -/

namespace Sys2Proof.Machine

/-! ### A line sampled at its new level (R3, R14) -/

@[simp] theorem Pins.lineLevel_setLine (p : Pins) (line : Line) (v : Bool) : (p.setLine line v).lineLevel line = v := by
  cases line <;> simp [Pins.lineLevel, Pins.setLine]

theorem Pins.lineLevel_setLine_ne (p : Pins) {line other : Line} (h : other ≠ line) (v : Bool) :
    (p.setLine line v).lineLevel other = p.lineLevel other := by
  cases line <;> cases other <;> simp_all [Pins.lineLevel, Pins.setLine]
  exact Twelve.get_set_ne _ _ h

theorem moveLine_lineMoved (line : Line) (s : State) : lineMoved line s (moveLine line s) := by
  refine ⟨Conditioner.line_setLine _ _ _, fun other h => Conditioner.line_setLine_ne _ h _,
    Pins.lineLevel_setLine _ _ _, fun other h => Pins.lineLevel_setLine_ne _ h _, ?_⟩
  cases line <;> rfl

/-- A line judged, and the edge it makes held for its receiver. -/
theorem holdEdge_judges (line : Line) (s : State) :
    (holdEdge line s).inputs.line line = judgedLine s.now (s.inputs.line line)
      ∧ (∀ other, other ≠ line → (holdEdge line s).inputs.line other = s.inputs.line other)
      ∧ holdEdge line s = { s with
          inputs := { s.inputs with start := (holdEdge line s).inputs.start, stops := (holdEdge line s).inputs.stops }
          sampled := { s.sampled with judged := s.sampled.judged ++ edgeOf line s.now (s.inputs.line line) } } := by
  refine ⟨?_, fun other h => Conditioner.line_setLine_ne _ h _, ?_⟩
  · rw [holdEdge_inputs, Conditioner.line_setLine, judgeTransition_line]
  · rw [← judges_eq]
    cases line <;> rfl

/-- A rejected START edge adds one to their count and leaves the filter (R18, R27). -/
theorem rejectStart_eq (s : State) : rejectStart s = { s with inputs := { s.inputs with
    rejectedStarts := if s.inputs.rejectedStarts = 0xFFFF then 0xFFFF else s.inputs.rejectedStarts + 1 } } := by
  rw [rejectStart, satInc_word]

/-- Settles O7: a transition that is no edge is only sampled, and a rejected START edge goes to the count of them. -/
theorem unqualifiedTransitionsMakeNoStart : Obligations.UnqualifiedTransitionsMakeNoStart := by
  have hdropped : ∀ (s : State) (line : Line), s.movesWhole line → (s.inputs.line line).seesEdge = false →
      ∃ t, .next (takeTransition line s) = (.next t : Host.Outcome State Fault Refusal) ∧ lineMoved line s t := by
    intro s line ⟨⟨hlive, hmoved⟩, hwhole⟩ hedge
    exact ⟨_, congrArg Host.Outcome.next (takeTransition_dropped hlive hmoved hwhole hedge), moveLine_lineMoved line s⟩
  refine ⟨fun s ch => ⟨hdropped s .start, hdropped s (.stop ch)⟩, fun s hm hedge hnear => ?_⟩
  obtain ⟨⟨hlive, hmoved⟩, hwhole⟩ := hm
  have hedge' : (s.inputs.line .start).seesEdge = true := hedge
  have hnear' : (s.inputs.line .start).spaced s.now = false := hnear
  have htake := takeTransition_edge hlive hmoved hwhole hedge'
  rw [hnear', judgeLine_moveLine hedge', hnear'] at htake
  exact (congrArg Host.Outcome.next (htake.trans (rejectStart_eq _)) :)

/-! ### A stop edge reaches its unit (R24, R40, R65) -/

/-- Only a counted edge that reaches the quota makes a unit DONE (Figure 4-1). -/
theorem counted_of_qualifiedEdge_done {u : ChannelUnit} {time : Ticks} (hu : u.state ≠ .done)
    (h : (qualifiedEdge time u).state = .done) : u.state = .counting ∧ u.edgeCount + 1 = u.quota := by
  unfold qualifiedEdge at h
  cases hs : u.state with
  | counting =>
    simp only [hs, countEdge] at h
    split at h
    · exact ⟨rfl, ‹_›⟩
    · cases h
  | done => exact absurd hs hu
  | off => simp [hs] at h
  | primed => simp [hs] at h
  | blanked => simp [hs] at h
  | overrun => simp [hs] at h
  | aborted => simp [hs] at h

theorem qualifiedStop_leavesOpen {s : State} {ch other : Channel} (h : leavesCycleOpen true ch other s) :
    qualifiedStop ch s = { s with units := s.units.set ch (qualifiedEdge s.time.elapsed (s.units.get ch)) } := by
  refine if_neg fun ⟨hu, hdone, _, hall⟩ => ?_
  obtain ⟨hcounting, hquota⟩ := counted_of_qualifiedEdge_done hu hdone
  rcases h with h | h | h | ⟨hne, hopen, hset⟩
  · cases h
  · exact h hcounting
  · exact h hquota
  · unfold State.allConcluded at hall
    cases hoc : s.engine.cycle with
    | none => simp [hoc] at hall
    | some oc =>
      simp only [hoc, allUnits_iff] at hall
      have hc := hall other (hset oc hoc)
      rw [Twelve.get_set_ne _ _ hne, hopen] at hc
      cases hc

/-- An edge that closes no cycle changes its unit alone. -/
theorem deliverEdge_stop_leavesOpen {s : State} {ch other : Channel} {accepted : Bool} (rising : Bool)
    (h : leavesCycleOpen accepted ch other s) : deliverEdge ⟨.stop ch, rising, accepted⟩ s
      = { s with units := s.units.set ch (edgeAt accepted s.time.elapsed (s.units.get ch)) } := by
  rw [← unitEdge_eq_edgeAt]
  cases accepted with
  | false => rfl
  | true => exact qualifiedStop_leavesOpen h

/-- A stop line sampled and judged. -/
theorem judgeLine_moveLine_stopSampled {s : State} {ch : Channel} {accepted : Bool}
    (hedge : (s.inputs.stops.get ch).seesEdge = true) (ha : accepted = (s.inputs.stops.get ch).spaced s.now) :
    stopSampled ch accepted s (judgeLine (.stop ch) (moveLine (.stop ch) s))
      ∧ judgeLine (.stop ch) (moveLine (.stop ch) s) = { s with
          pins := { s.pins with stops := (judgeLine (.stop ch) (moveLine (.stop ch) s)).pins.stops }
          inputs := { s.inputs with stops := (judgeLine (.stop ch) (moveLine (.stop ch) s)).inputs.stops }
          sampled := s.sampled.withMoved (.stop ch) } := by
  rw [judgeLine_moveLine (line := .stop ch) hedge]
  subst ha
  exact ⟨⟨Twelve.get_set_same _ _ _, fun j hj => Twelve.get_set_ne _ _ hj, Twelve.get_set_same _ _ _,
    fun j hj => Twelve.get_set_ne _ _ hj⟩, rfl⟩

/-- A stop transition that is an edge, taken whole, is judged and reaches its unit. -/
theorem exec_stopTransition_edge {s : State} {ch : Channel} (hm : s.movesWhole (.stop ch))
    (hedge : (s.inputs.stops.get ch).seesEdge = true) : exec (.stopTransition ch) s
      = .next (deliverEdge ⟨.stop ch, !(s.inputs.stops.get ch).level, (s.inputs.stops.get ch).spaced s.now⟩
          (judgeLine (.stop ch) (moveLine (.stop ch) s))) :=
  congrArg Host.Outcome.next (takeTransition_edge (line := .stop ch) hm.1.1 hm.1.2 hm.2 hedge)

/-- Settles O14: sampling and judging leave the units and the open cycle, so the edge that then reaches its unit is the one
that closes no cycle. -/
theorem stopEdgesReachTheirUnits : Obligations.StopEdgesReachTheirUnits := by
  intro s ch other accepted hm hedge ha hopen
  obtain ⟨hsampled, hframe⟩ := judgeLine_moveLine_stopSampled hedge ha
  refine ⟨_, exec_stopTransition_edge hm hedge, ?_⟩
  have hopen' : leavesCycleOpen accepted ch other (judgeLine (.stop ch) (moveLine (.stop ch) s)) := hopen
  rw [← ha, deliverEdge_stop_leavesOpen _ hopen']
  refine ⟨hsampled, Twelve.get_set_same _ _ _, fun j hj => Twelve.get_set_ne _ _ hj, ?_⟩
  exact congrArg (fun t : State => { t with
    units := s.units.set ch (edgeAt accepted s.time.elapsed (s.units.get ch)) }) hframe

/-! ### The last conclusion (R40, R43) -/

/-- A cycle whose units have all concluded DONE closes COMPLETE. -/
theorem closeCycle_complete {oc : OpenCycle} {after : Channel → ChannelUnit} {s : State}
    (hoc : s.engine.cycle = some oc) (hget : ∀ i, inSet oc.channelSet i = true → s.units.get i = after i)
    (hall : ∀ i ∈ channels, inSet oc.channelSet i = true → (after i).state = .done) : closeCycle .concluded none s
      = requestAdmission
          ⟨closedRecord .complete oc s.engine.overlaps s.engine.missed s.time.elapsed after, closedCost oc after, s.now⟩
          none (closedState oc after s) :=
  closeCycle_eq hoc hget
    ((outcome_eq (.inl rfl) fun i hi => by simp [Ending.conclude, hi, hget]).trans (if_pos hall))

/-- A closed state does not depend on what a unit of the set was before the close. -/
theorem closedState_setUnit {oc : OpenCycle} {after : Channel → ChannelUnit} {s : State} {ch : Channel}
    (u : ChannelUnit) (h : inSet oc.channelSet ch = true) :
    closedState oc after { s with units := s.units.set ch u } = closedState oc after s := by
  have hunits : ∀ i, (if inSet oc.channelSet i = true then shutUnit (after i) else (s.units.set ch u).get i)
      = if inSet oc.channelSet i = true then shutUnit (after i) else s.units.get i := fun i => by
    split
    · rfl
    · next hi => exact Twelve.get_set_ne _ _ fun hc => hi (hc ▸ h)
  simp only [closedState, hunits]

/-- The unit that reaches its quota concludes, and the cycle closes COMPLETE when the others of the set are DONE. -/
theorem qualifiedStop_closes {s : State} {ch : Channel} {oc : OpenCycle} {after : Channel → ChannelUnit}
    (hs : (s.units.get ch).state = .counting) (hq : (s.units.get ch).edgeCount + 1 = (s.units.get ch).quota)
    (hm : s.engine.state = .measuring) (hoc : s.engine.cycle = some oc) (hch : inSet oc.channelSet ch = true)
    (hothers : ∀ j, j ≠ ch → inSet oc.channelSet j = true → (s.units.get j).state = .done)
    (hafter : ∀ i, after i = if i = ch then countedUnit s.time.elapsed (s.units.get ch) else s.units.get i) :
    qualifiedStop ch s = requestAdmission
      ⟨closedRecord .complete oc s.engine.overlaps s.engine.missed s.time.elapsed after, closedCost oc after, s.now⟩
      none (closedState oc after s) := by
  have hedge : qualifiedEdge s.time.elapsed (s.units.get ch) = countedUnit s.time.elapsed (s.units.get ch) := by
    have h := unitEdge_eq_edgeAt true s.time.elapsed (s.units.get ch)
    simpa [unitEdge, edgeAt, hs] using h
  have hget : ∀ i, (s.units.set ch (countedUnit s.time.elapsed (s.units.get ch))).get i = after i := fun i => by
    rw [Twelve.get_set, hafter]
  have hall : ∀ i ∈ channels, inSet oc.channelSet i = true → (after i).state = .done := fun i _ hi => by
    rw [hafter]
    split
    · exact if_pos hq
    · next hne => exact hothers i hne hi
  have hdone : State.allConcluded { s with
      units := s.units.set ch (countedUnit s.time.elapsed (s.units.get ch)) } = true := by
    simp only [State.allConcluded, hoc, allUnits_iff, hget]
    intro i hi
    rw [hall i (mem_channels i) hi]
    rfl
  calc qualifiedStop ch s
      = closeCycle .concluded none { s with
          units := s.units.set ch (countedUnit s.time.elapsed (s.units.get ch)) } := by
        unfold qualifiedStop
        simp only [hedge]
        exact if_pos ⟨by simp [hs], if_pos hq, hm, hdone⟩
    _ = _ := by
        rw [← closedState_setUnit (countedUnit s.time.elapsed (s.units.get ch)) hch]
        exact closeCycle_complete (s := { s with
          units := s.units.set ch (countedUnit s.time.elapsed (s.units.get ch)) }) hoc (fun i _ => hget i) hall

/-- Settles O15: sampling and judging leave the units and the open cycle, whose last unit the edge concludes. -/
theorem lastConclusionClosesCycle : Obligations.LastConclusionClosesCycle := by
  intro s ch a oc u after hm hedge hspaced hu hcounting hquota hmeasuring hoc hactive hch hothers hafter
  obtain ⟨hsampled, hframe⟩ := judgeLine_moveLine_stopSampled hedge hspaced.symm
  subst hu
  have hclose := qualifiedStop_closes (s := judgeLine (.stop ch) (moveLine (.stop ch) s)) hcounting hquota hmeasuring hoc
    hch hothers hafter
  refine ⟨_, judgeLine (.stop ch) (moveLine (.stop ch) s), ?_, hsampled, hframe,
    requestAdmission_answers (s := closedState oc after (judgeLine (.stop ch) (moveLine (.stop ch) s))) hactive _ _⟩
  rw [exec_stopTransition_edge hm hedge, hspaced]
  exact congrArg Host.Outcome.next hclose

/-! ### Starts that are taken, and those of other sources (Table 3-3) -/

theorem startEvent_notAccepted {src : StartTaken} {s : State} (h : s.profile.startSource.accepts src = false) :
    startEvent src s = s :=
  if_neg (by simp [h])

theorem startAnswer_notAccepted {s t : State} (hi : s.engine.state ≠ .idle)
    (h : s.profile.startSource.accepts .host = false) : startAnswer s t = .refuse .source := by
  simp [startAnswer, hi, h]

/-- Settles O10: the start source accepts no start event of the form, so the edge only holds the filter and the request is
only answered. -/
theorem startsOfOtherSourcesAreDisregarded : Obligations.StartsOfOtherSourcesAreDisregarded := by
  refine ⟨fun s a hm hactive hsource hedge hspaced => ?_, fun s a r rest hr hcode hactive hsource hidle => ?_⟩
  · have hno : (startSampled s).profile.startSource.accepts .external = false := by
      rw [profile_of_active (s := startSampled s) hactive]
      rcases hsource with h | h <;> rw [h] <;> rfl
    rw [exec_startTransition_qualified hm hedge hspaced, startEvent_notAccepted hno]
  · have hno : s.profile.startSource.accepts .host = false := by
      rw [profile_of_active hactive]
      rcases hsource with h | h <;> rw [h] <;> rfl
    exact exec_start_carriesOut hr hcode (startEvent_notAccepted (s := popIntake s) hno)
      (startAnswer_notAccepted hidle hno) rfl

theorem startEvent_armed {src : StartTaken} {s : State} (ha : s.profile.startSource.accepts src = true)
    (h : s.engine.state = .armed) : startEvent src s = takeStart src s := by
  rw [startEvent, if_pos ha, h]

theorem startAnswer_armed {s t : State} (ha : s.profile.startSource.accepts .host = true) (h : s.engine.state = .armed) :
    startAnswer s t = .okWith (bytesOf 4 t.engine.cycleCounter) := by
  simp [startAnswer, ha, h]

/-- The accepted sources of an edge and of a request (Table 3-2). -/
theorem accepts_external {s : State} {a : ActiveProfile} (h : s.engine.active = some a)
    (hs : a.profile.startSource = .external ∨ a.profile.startSource = .either) :
    s.profile.startSource.accepts .external = true := by
  rw [profile_of_active h, accepts_external_iff]
  exact hs

theorem accepts_host {s : State} {a : ActiveProfile} (h : s.engine.active = some a)
    (hs : a.profile.startSource = .host ∨ a.profile.startSource = .either) :
    s.profile.startSource.accepts .host = true := by
  rw [profile_of_active h, accepts_host_iff]
  exact hs

/-- Settles O11: in ARMED a start event of an accepted source is taken, whichever form it has. -/
theorem startsBeginCycles : Obligations.StartsBeginCycles := by
  refine ⟨fun s a hm harmed hactive hsource hedge hspaced => ?_, fun s r rest a hr hcode harmed hactive hsource => ?_⟩
  · have haccepts := accepts_external (s := startSampled s) hactive hsource
    refine ⟨takeStart .external (startSampled s), ?_, takeStart_beginsCycle (s := startSampled s) hactive, rfl⟩
    rw [exec_startTransition_qualified hm hedge hspaced, startEvent_armed haccepts harmed]
  · have haccepts := accepts_host hactive hsource
    exact ⟨_, exec_start_carriesOut (t := takeStart .host s) hr hcode (startEvent_armed (s := popIntake s) haccepts harmed)
      (startAnswer_armed haccepts harmed) rfl, takeStart_beginsCycle hactive, rfl⟩

/-! ### A restarting start (R35, R36, R39) -/

theorem startEvent_restart {src : StartTaken} {s : State} (ha : s.profile.startSource.accepts src = true)
    (h : s.engine.state = .measuring) (ho : s.profile.overlap = .restart) :
    startEvent src s = closeCycle (.cut .restart) (some src) s := by
  rw [startEvent, if_pos ha, h, ho]

section
variable {s t : State} (ha : s.profile.startSource.accepts .host = true) (hm : s.engine.state = .measuring)
  (ho : s.profile.overlap = .restart)
include ha hm ho

theorem startAnswer_restart_begun (ht : t.engine.state = .measuring) :
    startAnswer s t = .okWith (bytesOf 4 t.engine.cycleCounter) := by
  simp [startAnswer, ha, hm, ho, ht]

theorem startAnswer_restart_refused (ht : t.engine.state = .stalled) : startAnswer s t = .refuse .stalled := by
  simp [startAnswer, ha, hm, ho, ht]

theorem startAnswer_restart_ended (ht : t.engine.state = .idle) : startAnswer s t = .refuse .state := by
  simp [startAnswer, ha, hm, ho, ht]

end

/-- A cycle cut short closes ABORTED with every unit not concluded ABORTED (R43, R70). -/
theorem closeCycle_cut {reason : AbortReason} {restart : Option StartTaken} {oc : OpenCycle} {s : State}
    {after : Channel → ChannelUnit} (hoc : s.engine.cycle = some oc)
    (hafter : ∀ i, after i = forcedUnit .aborted (s.units.get i)) : closeCycle (.cut reason) restart s
      = requestAdmission
          ⟨closedRecord (.aborted reason) oc s.engine.overlaps s.engine.missed s.time.elapsed after, closedCost oc after,
            s.now⟩ restart (closedState oc after s) :=
  closeCycle_eq hoc (fun i _ => (concludeUnit_eq_forcedUnit _ _).trans (hafter i).symm) rfl

/-- Closing a cycle and taking a request do not disturb one another. -/
theorem closeCycle_popIntake (e : Ending) (restart : Option StartTaken) (s : State) :
    closeCycle e restart (popIntake s) = popIntake (closeCycle e restart s) := by
  unfold closeCycle
  rw [popIntake_engine]
  cases s.engine.cycle with
  | none => rfl
  | some oc => exact requestAdmission_popIntake _ _ (stopCycle oc { s with units := _ })

@[simp] theorem closeCycle_intake (e : Ending) (restart : Option StartTaken) (s : State) :
    (closeCycle e restart s).link.intake = s.link.intake := by
  unfold closeCycle
  split
  · rfl
  · rw [requestAdmission_intake]
    rfl

/-- Settles O13: the restarting start closes the open cycle whichever form it has, and the answer to a request is told by
the state that the close leaves. -/
theorem restartsAbortTheOpenCycle : Obligations.RestartsAbortTheOpenCycle := by
  intro s a oc after hmeasuring hoc hactive hrestart hafter
  have hoverlap : s.profile.overlap = .restart := by rw [profile_of_active hactive, hrestart]
  refine ⟨fun hm hsource hedge hspaced => ?_, fun r rest hr hcode hsource => ?_⟩
  · refine ⟨_, exec_startTransition_qualified hm hedge hspaced, ?_⟩
    rw [startEvent_restart (s := startSampled s) (accepts_external hactive hsource) hmeasuring hoverlap,
      closeCycle_cut (s := startSampled s) hoc hafter]
    exact requestAdmission_answers (s := closedState oc after (startSampled s)) hactive _ _
  · have haccepts := accepts_host hactive hsource
    have hevent : startEvent .host (popIntake s) = popIntake (closeCycle (.cut .restart) (some .host) s) := by
      rw [startEvent_restart (s := popIntake s) haccepts hmeasuring hoverlap, closeCycle_popIntake]
    have hanswers := requestAdmission_answers (s := closedState oc after s) hactive
      ⟨closedRecord (.aborted .restart) oc s.engine.overlaps s.engine.missed s.time.elapsed after, closedCost oc after,
        s.now⟩ (some .host)
    rw [← closeCycle_cut hoc hafter] at hanswers
    refine ⟨_, hanswers, fun ht => ?_, fun ht => ?_, fun ht => ?_⟩
    · exact exec_start_carriesOut hr hcode hevent (startAnswer_restart_begun haccepts hmeasuring hoverlap ht)
        (closeCycle_intake _ _ _)
    · exact exec_start_carriesOut hr hcode hevent (startAnswer_restart_refused haccepts hmeasuring hoverlap ht)
        (closeCycle_intake _ _ _)
    · exact exec_start_carriesOut hr hcode hevent (startAnswer_restart_ended haccepts hmeasuring hoverlap ht)
        (closeCycle_intake _ _ _)

end Sys2Proof.Machine
end

section
/-! PROOF. A transition taken in stages (R14, R17, R21 to R24): what waits between the stages is what the whole command
passes on at once, so judging and receiving it afterwards comes to the same. -/

namespace Sys2Proof.Machine

/-- The command of a line's transition. -/
theorem exec_transition {s : State} {line : Line} {c : Instr}
    (h : line = .start ∧ c = .startTransition ∨ ∃ ch, line = .stop ch ∧ c = .stopTransition ch) :
    exec c s = .next (takeTransition line s) := by
  rcases h with ⟨rfl, rfl⟩ | ⟨ch, rfl, rfl⟩ <;> rfl

theorem takeTransition_sampled {s : State} {line : Line} (h : s.canMove line) (ht : s.taking = .sampled) :
    takeTransition line s = { moveLine line s with
      sampled := { (moveLine line s).sampled with unjudged := s.sampled.unjudged ++ [line] } } := by
  simp [takeTransition, h.1, h.2, ht]

theorem takeTransition_judged {s : State} {line : Line} (h : s.canMove line) (ht : s.taking = .judged) :
    takeTransition line s = holdEdge line (moveLine line s) := by
  simp [takeTransition, h.1, h.2, ht]

/-- What is put at the end of a list that does not hold it is what a removal takes from it. -/
theorem erase_append_self {α : Type} [DecidableEq α] {l : List α} {a : α} (h : a ∉ l) : (l ++ [a]).erase a = l := by
  rw [List.erase_append_right _ h, List.erase_cons_head, List.append_nil]

/-- A transition that was only sampled is judged like one that was judged at once. -/
theorem judgeFound_moveLine {s : State} {line : Line} (h : line ∉ s.sampled.unjudged) :
    judgeFound line { moveLine line s with
        sampled := { (moveLine line s).sampled with unjudged := s.sampled.unjudged ++ [line] } }
      = holdEdge line (moveLine line s) := by
  simp only [judgeFound, erase_append_self h]
  rfl

/-- An edge that was held is received like one that was passed on at once. -/
theorem receiveEdge_holdEdge {s : State} {line : Line} (hnew : ∀ e ∈ s.sampled.judged, e.line ≠ line)
    (hm : s.movesWhole line) (hedge : (s.inputs.line line).seesEdge = true) :
    receiveEdge ⟨line, !(s.inputs.line line).level, (s.inputs.line line).spaced s.now⟩ (holdEdge line (moveLine line s))
      = takeTransition line s := by
  have hjudges : (moveLine line s).judges line
      = [⟨line, !(s.inputs.line line).level, (s.inputs.line line).spaced s.now⟩] := by
    simp [judges_eq, edgeOf, hedge]
    rfl
  have herase := erase_append_self fun h => hnew
    ⟨line, !(s.inputs.line line).level, (s.inputs.line line).spaced s.now⟩ h rfl
  rw [takeTransition_edge hm.1.1 hm.1.2 hm.2 hedge]
  simp only [receiveEdge, holdEdge, hjudges]
  exact congrArg (fun l => deliverEdge _ { judgeLine line (moveLine line s) with
    sampled := { (moveLine line s).sampled with judged := l } }) herase

/-- Settles O8: the stages are the parts of the whole command, and a line that has moved is left alone. -/
theorem transitionsAreTakenInStages : Obligations.TransitionsAreTakenInStages := by
  refine ⟨fun s line c hc => ⟨fun hm => ?_, fun hlive hmoved => ?_⟩, fun s line => ?_, fun s c rising accepted hc => ?_,
    fun s ch other rising accepted hopen => ?_⟩
  · obtain ⟨hline, hother, hframe⟩ := holdEdge_judges line (moveLine line s)
    refine ⟨moveLine line s, holdEdge line (moveLine line s), moveLine_lineMoved line s, hline, hother, hframe, fun ht => ?_,
      fun ht => ?_, fun hnew => ?_, fun hnew hedge ht => ?_⟩
    · rw [exec_transition hc, takeTransition_sampled hm ht]
    · rw [exec_transition hc, takeTransition_judged hm ht]
    · exact congrArg Host.Outcome.next (judgeFound_moveLine hnew)
    · rw [exec_transition hc]
      exact congrArg Host.Outcome.next (receiveEdge_holdEdge hnew ⟨hm, ht⟩ hedge)
  · rw [exec_transition hc, takeTransition, if_pos hlive, if_pos hmoved]
  · obtain ⟨hline, hother, hframe⟩ := holdEdge_judges line
      { s with sampled := { s.sampled with unjudged := s.sampled.unjudged.erase line } }
    exact ⟨_, rfl, hline, hother, hframe⟩
  · subst hc
    refine ⟨fun ha => ?_, fun ha => ?_⟩
    · subst ha
      rfl
    · subst ha
      exact congrArg Host.Outcome.next (rejectStart_eq _)
  · have hdeliver := deliverEdge_stop_leavesOpen (s := { s with sampled := { s.sampled with
      judged := s.sampled.judged.erase ⟨.stop ch, rising, accepted⟩ } }) rising hopen
    exact ⟨_, congrArg Host.Outcome.next hdeliver, Twelve.get_set_same _ _ _, fun j hj => Twelve.get_set_ne _ _ hj, rfl⟩

end Sys2Proof.Machine
end

section
/-! PROOF. The expiries of the measurement timers and what follows a close (R41, R62, R86 to R88): the window closes the
cycle, the holdoff reaches an arming boundary, and the after-close sequence takes one of its branches. -/

namespace Sys2Proof.Machine

/-! ### Blanking and lapse (R8, R18, R62) -/

theorem endBlanking_due {u : ChannelUnit} {elapsed : Ticks} (hs : u.state = .blanked) (ht : u.blankingTimer = true)
    (hd : u.blanking.toNat ≤ elapsed.toNat) :
    endBlanking elapsed u = { u with state := .counting, blankingTimer := false } :=
  if_pos (by simp [ChannelUnit.blankingDue, hs, ht, hd])

theorem lapseFilter_due {l : LineState} {now e : Epoch} (h : l.filter = some e)
    (hd : l.spacing.toNat ≤ (now - e).toNat) : lapseFilter l now = { l with filter := none } :=
  if_pos (by
    simp only [LineState.lapseDue, h]
    exact decide_eq_true hd)

/-- Settles O18: each expiry, when due, changes its own unit or its own line. -/
theorem blankingEndsAndFiltersLapse : Obligations.BlankingEndsAndFiltersLapse := by
  refine ⟨fun s ch u hlive hu hs ht hd => ?_, fun s e hlive hf hd => ?_, fun s ch e hlive hf hd => ?_⟩
  · subst hu
    refine ⟨_, congrArg Host.Outcome.next (if_pos hlive), ?_, fun j hj => Twelve.get_set_ne _ _ hj, rfl⟩
    exact (Twelve.get_set_same _ _ _).trans (endBlanking_due hs ht hd)
  · refine congrArg Host.Outcome.next ((if_pos hlive).trans ?_)
    rw [lapseFilter_due (l := s.inputs.line .start) hf hd]
    rfl
  · refine ⟨_, congrArg Host.Outcome.next (if_pos hlive), ?_, fun j hj => Twelve.get_set_ne _ _ hj, rfl⟩
    exact (Twelve.get_set_same _ _ _).trans (lapseFilter_due (l := s.inputs.line (.stop ch)) hf hd)

/-! ### The window (R41, R43, R69) -/

theorem windowDue_iff {s : State} {oc : OpenCycle} (hm : s.engine.state = .measuring) (hoc : s.engine.cycle = some oc) :
    s.windowDue = true ↔ s.time.counting = true ∧ oc.windowLimit.toNat ≤ s.time.elapsed.toNat := by
  simp [State.windowDue, hm, hoc]

/-- An expired cycle closes with every unit not concluded OVERRUN. -/
theorem closeCycle_expired {oc : OpenCycle} {s : State} {after : Channel → ChannelUnit}
    (hoc : s.engine.cycle = some oc) (hafter : ∀ i, after i = forcedUnit .overrun (s.units.get i)) :
    closeCycle .expired none s
      = requestAdmission
          ⟨closedRecord
              (if ∀ i ∈ channels, inSet oc.channelSet i = true → (after i).state = .done then .complete else .partly) oc
              s.engine.overlaps s.engine.missed s.time.elapsed after, closedCost oc after, s.now⟩
          none (closedState oc after s) := by
  have hconclude : ∀ i, Ending.expired.conclude (s.units.get i) = after i := fun i =>
    (concludeUnit_eq_forcedUnit _ _).trans (hafter i).symm
  exact closeCycle_eq hoc (fun i _ => hconclude i) (outcome_eq (.inr rfl) fun i hi => by simp [hi, hconclude])

/-- Settles O16: the expiry is due exactly at the limit, and then closes the cycle. -/
theorem windowExpiryClosesCycle : Obligations.WindowExpiryClosesCycle := by
  intro s a oc after outcome hlive hm hoc hactive
  refine ⟨fun hcounting hlimit hafter hout => ?_, fun hbefore => ?_⟩
  · subst hout
    have hdue : (s.live && s.windowDue) = true := by
      rw [hlive, (windowDue_iff hm hoc).2 ⟨hcounting, hlimit⟩]
      rfl
    refine ⟨_, congrArg Host.Outcome.next ((if_pos hdue).trans (closeCycle_expired hoc hafter)), ?_⟩
    exact requestAdmission_answers (s := closedState oc after s) hactive _ _
  · refine congrArg Host.Outcome.next (if_neg fun h => ?_)
    rw [Bool.and_eq_true, windowDue_iff hm hoc] at h
    omega

/-! ### The holdoff (R84, R88) -/

/-- Settles O19: the expiry is due exactly at 0, and is then an arming boundary. -/
theorem holdoffExpiryArmsOrSupersedes : Obligations.HoldoffExpiryArmsOrSupersedes := by
  intro s a hlive hholdoff hactive
  refine ⟨fun htimer => ?_, fun n htimer => ?_⟩
  · have hdue : (s.live && s.holdoffDue) = true := by simp [State.holdoffDue, hlive, hholdoff, htimer]
    exact ⟨_, congrArg Host.Outcome.next (if_pos hdue), armingBoundary_entersArmed hactive,
      fun k rev p => armingBoundary_supersedes⟩
  · exact congrArg Host.Outcome.next (if_neg (by simp [State.holdoffDue, htimer]))

/-! ### After a close (R86, R87) -/

/-- The state of a close with its cycle counted in cycles done (R81). -/
theorem afterClose_eq (outcome : CycleOutcome) (restart : Option StartTaken) (s : State) :
    afterClose outcome restart s = { (afterCloseSequence outcome restart s).state with
      link := (afterCloseSequence outcome restart s).events.foldl (fun l e => postEvent s.now e l) s.link } := by
  simp only [afterClose, EngineSequence.run, passAll, State.now, afterCloseSequence_link, afterCloseSequence_epoch]

section
variable {s c : State} {outcome : CycleOutcome} {restart : Option StartTaken} {a : ActiveProfile}
  (hc : c = { s with engine := { s.engine with cyclesDone := satInc s.engine.cyclesDone } })
include hc

/-- Under a stop request the run ends, ABORTED after a cycle the host aborted. -/
theorem afterCloseSequence_stops (h : s.engine.stopRequest = true) : afterCloseSequence outcome restart s
    = runEndSequence (if outcome = .aborted .host then .aborted else .disarmed) c := by
  subst hc
  exact if_pos h

/-- A run that has reached its length ends COMPLETE. -/
theorem afterCloseSequence_completes (ha : s.engine.active = some a) (h : s.engine.stopRequest = false)
    (hn : a.profile.runLength ≠ 0) (hd : c.engine.cyclesDone = a.profile.runLength) :
    afterCloseSequence outcome restart s = runEndSequence .complete c := by
  have hp : c.profile = a.profile := profile_of_active (by rw [hc]; exact ha)
  subst hc
  rw [← hp] at hn hd
  simp only [afterCloseSequence, h, Bool.false_eq_true, if_false]
  exact if_pos ⟨hn, hd⟩

/-- A run that goes on takes the restarting start, waits the holdoff, or reaches an arming boundary. -/
theorem afterCloseSequence_goesOn (ha : s.engine.active = some a) (h : s.engine.stopRequest = false)
    (hd : a.profile.runLength = 0 ∨ c.engine.cyclesDone ≠ a.profile.runLength) : afterCloseSequence outcome restart s
      = match restart with
        | some src => ⟨takeRestart src c, []⟩
        | none =>
          if a.profile.holdoff ≠ 0 then
            ⟨{ c with engine := { c.engine with
              state := .holdoff, holdoffTimer := some (Config.holdoffUnit * a.profile.holdoff.toNat) } }, []⟩
          else boundarySequence c := by
  have hp : c.profile = a.profile := profile_of_active (by rw [hc]; exact ha)
  have hgoes : ¬ (c.profile.runLength ≠ 0 ∧ c.engine.cyclesDone = c.profile.runLength) := by
    rw [hp]
    rintro ⟨h0, h1⟩
    exact hd.elim h0 fun h => h h1
  subst hc
  rw [← hp]
  simp only [afterCloseSequence, h, Bool.false_eq_true, if_false]
  exact if_neg hgoes

end

/-- The events of an arming boundary (R84). -/
theorem boundarySequence_events_none {s : State} (h : s.store.selected = none) : (boundarySequence s).events = [] := by
  simp [boundarySequence, State.pendingProfile, h]

theorem boundarySequence_events_some {s : State} {k : Fin 4} {rev : BitVec 16} {p : Profile}
    (h : s.store.selected = some k) (hk : s.store.slots.get k = .ready rev p) : (boundarySequence s).events
      = [.runEnd s.engine.runNumber .superseded s.engine.cyclesDone, .profileTaken k rev (nextRun s.engine)] := by
  simp only [boundarySequence, State.pendingProfile, h, hk]
  rfl

/-- Settles O17: the sequence has one branch for each case, and passes its events with the stamp of the close. -/
theorem afterCloseGoesOnOrEnds : Obligations.AfterCloseGoesOnOrEnds := by
  intro s c a outcome restart hactive hc
  rw [← satInc_word] at hc
  have hlink : c.link = s.link := by rw [hc]
  have hnow : c.now = s.now := by rw [hc]; rfl
  have hrun : c.engine.runNumber = s.engine.runNumber := by rw [hc]
  have hca : c.engine.active = some a := by rw [hc]; exact hactive
  have hstore : c.store = s.store := by rw [hc]
  refine ⟨afterClose_eq _ _ _, afterCloseSequence_link _ _ _, fun hstop => ?_, fun hstop hn hd => ?_, fun hstop hd => ?_⟩
  · have hq := afterCloseSequence_stops (outcome := outcome) (restart := restart) hc hstop
    refine ⟨_, rfl, ?_, ?_⟩
    · rw [hq, ← hrun]
      rfl
    · rw [afterClose, hq, ← hrun, ← hnow, ← hlink]
      rfl
  · have hq := afterCloseSequence_completes (outcome := outcome) (restart := restart) hc hactive hstop hn hd
    refine ⟨?_, ?_⟩
    · rw [hq, ← hrun]
      rfl
    · rw [afterClose, hq, ← hrun, ← hnow, ← hlink]
      rfl
  · have hq := afterCloseSequence_goesOn (outcome := outcome) (restart := restart) hc hactive hstop hd
    refine ⟨fun src hr => ?_, fun hr hh => ?_, fun hr hh hsel => ?_, fun k rev p hr hh hsel hk => ?_⟩
    · subst hr
      have hafter : afterClose outcome (some src) s = takeRestart src c := by
        rw [afterClose, hq]
        rfl
      refine ⟨by rw [hq], by rw [hafter]; exact takeRestart_beginsCycle hca, ?_⟩
      rw [hafter, hc]
      rfl
    · subst hr
      simp only [ne_eq, hh, not_false_eq_true, if_true] at hq
      refine ⟨by rw [hq], ?_⟩
      rw [afterClose, hq]
      rfl
    · subst hr
      simp only [ne_eq, hh, not_true_eq_false, if_false] at hq
      rw [hq, afterClose, hq]
      exact ⟨boundarySequence_events_none (hstore ▸ hsel), armingBoundary_entersArmed hca (hstore ▸ hsel)⟩
    · subst hr
      simp only [ne_eq, hh, not_true_eq_false, if_false] at hq
      have hsel' : c.store.selected = some k := hstore ▸ hsel
      have hk' : c.store.slots.get k = .ready rev p := hstore ▸ hk
      have hnext : nextRun c.engine = nextRun s.engine := by rw [hc]; rfl
      rw [hq, afterClose, hq, ← hrun, ← hnext]
      exact ⟨boundarySequence_events_some hsel' hk', armingBoundary_supersedes hsel' hk'⟩

end Sys2Proof.Machine
end

section
/-! PROOF. What the part does of its own accord (R1, R147): the events due in a base period are those whose time has come,
each list of them read off once; one of them is taken, or a base period passes. -/

namespace Sys2Proof.Machine

/-! ### What is due -/

theorem lapseDue_iff {l : LineState} {now : Epoch} :
    l.lapseDue now = true ↔ ∃ e, l.filter = some e ∧ l.spacing.toNat ≤ (now - e).toNat := by
  unfold LineState.lapseDue epochDistance
  cases l.filter <;> simp

theorem mem_dueLapses {s : State} {c : Instr} : c ∈ dueLapses s
    ↔ ∃ line e, c = .filterLapse line ∧ (s.inputs.line line).filter = some e
      ∧ (s.inputs.line line).spacing.toNat ≤ (s.now - e).toNat := by
  rw [dueLapses, List.mem_append, List.mem_ite_nil_right, List.mem_singleton]
  simp only [List.mem_map, List.mem_filter, mem_channels, true_and, lapseDue_iff]
  constructor
  · rintro (⟨⟨e, he⟩, rfl⟩ | ⟨i, ⟨e, he⟩, rfl⟩)
    · exact ⟨.start, e, rfl, he⟩
    · exact ⟨.stop i, e, rfl, he⟩
  · rintro ⟨line, e, rfl, he⟩
    cases line with
    | start => exact .inl ⟨⟨e, he⟩, rfl⟩
    | stop i => exact .inr ⟨i, ⟨e, he⟩, rfl⟩

theorem mem_dueBlankings {s : State} {c : Instr} : c ∈ dueBlankings s
    ↔ ∃ ch, c = .blankingEnd ch ∧ (s.units.get ch).state = .blanked ∧ (s.units.get ch).blankingTimer = true
      ∧ (s.units.get ch).blanking.toNat ≤ s.time.elapsed.toNat := by
  simp only [dueBlankings, List.mem_map, List.mem_filter, mem_channels, true_and, ChannelUnit.blankingDue,
    Bool.and_eq_true, decide_eq_true_eq, and_assoc]
  exact exists_congr fun ch => ⟨fun ⟨h1, h2, h3, h4⟩ => ⟨h4.symm, h1, h2, h3⟩, fun ⟨h4, h1, h2, h3⟩ => ⟨h1, h2, h3, h4.symm⟩⟩

theorem mem_dueExpiries {s : State} {c : Instr} : c ∈ dueExpiries s
    ↔ (∃ oc, c = .windowExpiry ∧ s.engine.state = .measuring ∧ s.time.counting = true ∧ s.engine.cycle = some oc
        ∧ oc.windowLimit.toNat ≤ s.time.elapsed.toNat)
      ∨ (c = .holdoffExpiry ∧ s.engine.state = .holdoff ∧ s.engine.holdoffTimer = some 0) := by
  have hwindow : s.windowDue = true ↔ ∃ oc, s.engine.state = .measuring ∧ s.time.counting = true
      ∧ s.engine.cycle = some oc ∧ oc.windowLimit.toNat ≤ s.time.elapsed.toNat := by
    unfold State.windowDue
    cases s.engine.cycle <;> simp [and_assoc]
  have hholdoff : s.holdoffDue = true ↔ s.engine.state = .holdoff ∧ s.engine.holdoffTimer = some 0 := by
    simp [State.holdoffDue]
  rw [dueExpiries, List.mem_append, List.mem_ite_nil_right, List.mem_ite_nil_right, List.mem_singleton, List.mem_singleton,
    hwindow, hholdoff]
  exact or_congr ⟨fun ⟨⟨oc, h⟩, hc⟩ => ⟨oc, hc, h⟩, fun ⟨oc, hc, h⟩ => ⟨⟨oc, h⟩, hc⟩⟩ and_comm

theorem mem_dueReports {l : HostLink} {c : Instr} : c ∈ dueReports l
    ↔ ∃ h p, c = .reportTimeout h.slot ∧ l.session = .opened p ∧ h ∈ l.window ∧ h.timer = some 0 := by
  unfold dueReports
  cases l.session with
  | closed => simp
  | suspended p => simp
  | opened p =>
    simp only [List.mem_map, List.mem_filter, decide_eq_true_eq, Session.opened.injEq]
    exact exists_congr fun h => ⟨fun ⟨⟨hm, ht⟩, hc⟩ => ⟨p, hc.symm, rfl, hm, ht⟩, fun ⟨_, hc, _, hm, ht⟩ => ⟨⟨hm, ht⟩, hc.symm⟩⟩

theorem gapDue_iff {l : HostLink} : l.gapDue = true ↔ l.gapTimer = some 0
    ∧ ((∃ got crc, l.framer = .header got crc) ∨ ∃ h payload low crc, l.framer = .body h payload low crc) := by
  unfold HostLink.gapDue Framer.inFrame
  cases l.framer <;> simp

theorem mem_dueSerial {s : State} {c : Instr} : c ∈ dueSerial s
    ↔ (c = .gapTimeout ∧ s.link.gapTimer = some 0
        ∧ ((∃ got crc, s.link.framer = .header got crc) ∨ ∃ h payload low crc, s.link.framer = .body h payload low crc))
      ∨ (∃ frame source, c = .frameSent ∧ s.link.transmitter = .sending frame 0 source)
      ∨ (c = .requestReset s.pins.baud1 s.pins.baud0 ∧ s.link.resetDue = true) := by
  rw [dueSerial, List.mem_append, List.mem_append, List.mem_ite_nil_right, List.mem_ite_nil_right, List.mem_singleton,
    List.mem_singleton, gapDue_iff, or_assoc]
  refine or_congr and_comm (or_congr ?_ and_comm)
  cases s.link.transmitter with
  | sending frame left source => cases left <;> simp
  | idle => simp
  | chosen frame slot before => simp
  | ended => simp

/-- The head of the intake queue may be taken exactly when it is there and the part may take a request (R147). -/
theorem takes_iff {s : State} {r : Request} {rest : List Request} :
    s.takes r rest ↔ s.link.intake = r :: rest ∧ s.canTake = true := by
  refine ⟨fun h => ⟨h.2.2.1, canTake_of_takes h⟩, fun ⟨hi, ht⟩ => ?_⟩
  simp only [State.canTake, State.live, Bool.and_eq_true, Bool.not_eq_true', Option.isNone_iff_eq_none] at ht
  obtain ⟨⟨⟨⟨hclock, hheld⟩, hroom⟩, hreset⟩, hclear⟩ := ht
  exact ⟨hclock, hheld, hi, of_decide_eq_true hroom, hreset, hclear⟩

theorem mem_dueRequest {s : State} {i : Internal} : i ∈ dueRequest s
    ↔ ∃ r rest, s.takes r rest ∧ i = if r.code = 0x05 then .readStats else .due (requestCommand r.code) := by
  simp only [takes_iff, dueRequest]
  cases s.link.intake with
  | nil => simp
  | cons r rest =>
    simp only [List.cons.injEq]
    constructor
    · intro h
      split at h
      · exact ⟨r, rest, ⟨⟨rfl, rfl⟩, ‹_›⟩, List.mem_singleton.1 h⟩
      · cases h
    · rintro ⟨_, _, ⟨⟨rfl, rfl⟩, ht⟩, hi⟩
      rw [if_pos ht]
      exact List.mem_singleton.2 hi

theorem mem_dueCommands {s : State} {c : Instr} :
    (c ∈ dueLapses s ++ dueBlankings s ++ dueExpiries s ++ dueReports s.link ++ dueSerial s ∨ .due c ∈ dueRequest s)
      ↔ commandDue s c := by
  have hrequest : .due c ∈ dueRequest s ↔ ∃ r rest, c = requestCommand r.code ∧ s.takes r rest ∧ r.code ≠ 0x05 := by
    rw [mem_dueRequest]
    refine exists_congr fun r => exists_congr fun rest => ?_
    split <;> simp_all [and_comm]
  simp only [List.mem_append, mem_dueLapses, mem_dueBlankings, mem_dueExpiries, mem_dueReports, mem_dueSerial, hrequest,
    commandDue, or_assoc]

/-- A request is taken by its command, or, a LINK STATS, in two steps (R145). -/
theorem dueRequest_cases {s : State} {i : Internal} (h : i ∈ dueRequest s) : i = .readStats ∨ ∃ c, i = .due c := by
  obtain ⟨r, rest, -, rfl⟩ := mem_dueRequest.1 h
  split
  · exact .inl rfl
  · exact .inr ⟨_, rfl⟩

/-- Everything the part can do now. -/
theorem mem_internals {s : State} {i : Internal} : i ∈ internals s ↔ s.live = true ∧ doneNow s i := by
  unfold internals
  cases hl : s.live with
  | false => simp
  | true =>
    have hrequest : i ∈ dueRequest s → i = .readStats ∨ ∃ c, i = .due c := dueRequest_cases
    have hstats : Internal.readStats ∈ dueRequest s ↔ ∃ r rest, s.takes r rest ∧ r.code = 0x05 := by
      rw [mem_dueRequest]
      refine exists_congr fun r => exists_congr fun rest => and_congr Iff.rfl ?_
      split <;> simp_all
    simp only [if_true, true_and, List.mem_append, List.mem_ite_nil_right, List.mem_singleton, List.mem_map]
    cases i with
    | judge line => simp [doneNow, show Internal.judge line ∉ dueRequest s by simpa using hrequest]
    | receive e => simp [doneNow, show Internal.receive e ∉ dueRequest s by simpa using hrequest]
    | found c => simp [doneNow, show Internal.found c ∉ dueRequest s by simpa using hrequest]
    | due c => simp [doneNow, ← mem_dueCommands, or_assoc]
    | readStats => simp [doneNow, hstats]
    | clearStats => simp [doneNow, show Internal.clearStats ∉ dueRequest s by simpa using hrequest]
    | choose => simp [doneNow, show Internal.choose ∉ dueRequest s by simpa using hrequest]

/-- The event a free number picks is one of those due. -/
theorem pick_mem {α : Type} (n : Nat) (a : α) (rest : List α) : pick n a rest ∈ a :: rest := by
  cases rest with
  | nil => simp [pick]
  | cons b more =>
    have hlt : n % (more.length + 2) < (a :: b :: more).length := Nat.mod_lt _ (by omega)
    rw [pick, List.getD_eq_getElem _ _ hlt]
    exact List.getElem_mem hlt

/-- Settles O1: a step is its definition, once the lists of what is due are read off. -/
theorem stepRunsFrontCommand : Obligations.StepRunsFrontCommand := by
  refine ⟨fun s c rest hp => ?_, fun s hp hi => ?_, fun s i => mem_internals, fun s c => rfl, fun s t c h => ?_⟩
  · rw [step, hp]
  · obtain ⟨i, rest, hi⟩ := List.exists_cons_of_ne_nil hi
    refine ⟨_, hi ▸ pick_mem (Config.eventOrder s.choices) i rest, ?_⟩
    simp only [step, hp, idle, hi]
  · simp only [takeInternal, takeFound, h]

/-- Settles O53. -/
theorem soundAtReset : Obligations.SoundAtReset := by
  unfold Obligations.SoundAtReset
  decide

end Sys2Proof.Machine
end

section
/-! PROOF. Resets and the reference clock (R1, R14, R156, R158): a reset is one operation on every block, and with the clock
stopped or RESET_N held low nothing is live but the pins. -/

namespace Sys2Proof.Machine

/-! ### Every block at its reset values -/

/-- The Input Conditioner and the Host Link after a reset, whatever the levels, the straps and the receiver. -/
theorem resetBlocks_resetValues (start : Bool) (stops : Twelve Bool) (cause : ResetCause) (b1 b0 : Bool)
    (receiver : Receiver) (s : State) : resetValues (resetBlocks (Conditioner.atReset start stops)
      { HostLink.atReset cause b1 b0 with receiver := receiver } s) := by
  refine ⟨rfl, rfl, rfl, fun k => Four.get_ofFn _ k, rfl, rfl, rfl, rfl, fun i => ?_, rfl⟩
  simp [resetBlocks, Conditioner.atReset, LineState.atReset]

/-- The part held in reset. -/
theorem holdReset_heldInReset (s : State) : heldInReset s (holdReset s) := by
  refine ⟨resetBlocks_resetValues _ _ _ _ _ (.waiting false) s, rfl, rfl, rfl, fun i => ?_, rfl, rfl, rfl, rfl, rfl, rfl, rfl,
    rfl⟩
  simp [holdReset, resetBlocks, resetInputs, Conditioner.atReset, LineState.atReset]

/-- The part released from reset. -/
theorem releaseReset_releasedFromReset (s : State) : releasedFromReset s (releaseReset s) := by
  refine ⟨resetBlocks_resetValues _ _ _ _ _ (.waiting s.pins.rxd) s, rfl, rfl, rfl, fun i => ?_, rfl, rfl, rfl, rfl, rfl, rfl,
    rfl, rfl⟩
  simp [releaseReset, resetBlocks, Conditioner.atReset, LineState.atReset]

/-- A base period passes when no command waits and nothing is due. -/
theorem step_of_nothing {s : State} (hp : s.pending = []) (hi : internals s = []) : step s = .next (basePeriod s) := by
  simp only [step, hp, idle, hi]

theorem internals_of_not_live {s : State} (h : s.live = false) : internals s = [] := by
  simp [internals, h]

/-- Settles O4: RESET_N is sampled by the command and by a base period alike. -/
theorem pinResetHoldsUntilRelease : Obligations.PinResetHoldsUntilRelease := by
  refine ⟨fun s hclock => ?_, fun s hp hclock hlow hh => ?_, fun s b1 b0 hclock hheld => ?_,
    fun s hp hclock hheld hhigh => ?_⟩
  · exact ⟨_, congrArg Host.Outcome.next (if_pos hclock),
      holdReset_heldInReset { s with pins := { s.pins with resetN := false } }, rfl⟩
  · have hi : internals s = [] := hh.elim (fun hheld => internals_of_not_live (by simp [State.live, hheld])) id
    refine ⟨holdReset s, ?_, holdReset_heldInReset s, rfl⟩
    simp [step_of_nothing hp hi, basePeriod, hclock, hlow]
  · exact ⟨_, congrArg Host.Outcome.next (if_pos (by simp [hclock, hheld])),
      releaseReset_releasedFromReset { s with pins := { s.pins with resetN := true, baud1 := b1, baud0 := b0 } }, rfl⟩
  · refine ⟨releaseReset s, ?_, releaseReset_releasedFromReset s, rfl⟩
    simp [step_of_nothing hp (internals_of_not_live (by simp [State.live, hheld])), basePeriod, hclock, hhigh, hheld]

/-- Settles O5: the request reset is the same operation, with the levels sampled kept. -/
theorem requestResetTakesEffect : Obligations.RequestResetTakesEffect := by
  refine fun s b1 b0 => ⟨fun hlive hdue => ?_, fun hdue => ?_⟩
  · refine ⟨_, congrArg Host.Outcome.next (if_pos (by simp [hlive, hdue])), resetBlocks_resetValues _ _ _ _ _ _ _, ?_, rfl,
      rfl, fun i => ?_, rfl, rfl, rfl, rfl, rfl, rfl, rfl, rfl⟩
    · have hclock : s.pins.refclk = true ∧ s.held = false := by simpa [State.live] using hlive
      exact hclock.2
    · simp [resetBlocks, resetInputs, Conditioner.atReset, LineState.atReset]
  · exact congrArg Host.Outcome.next (if_neg (by simp [hdue]))

/-! ### Nothing happens while the part is not live (R1, R156) -/

section
variable {s : State} (h : s.live = false)
include h

theorem takeRequest_of_not_live (mine : Byte → Bool) (carryOut : Request → State → State) :
    takeRequest mine carryOut s = s := by
  unfold takeRequest
  split
  · rfl
  · exact if_neg (by simp [State.canTake, h])

theorem onCharacter_of_not_live (f : HostLink → HostLink) : onCharacter f s = s :=
  if_neg (by simp [State.canReceive, h])

theorem takeTransition_of_not_live (line : Line) : takeTransition line s = changeUnsampled line s :=
  if_neg (by simp [h])

theorem frameSent_of_not_live : frameSent s = s := by
  unfold frameSent
  split
  · exact if_neg (by simp [h])
  all_goals rfl

end

/-- What a command may change while the part is not live. -/
def onlyPins (s : State) (o : Host.Outcome State Fault Refusal) : Prop := ∀ t, o = .next t → t = { s with pins := t.pins }

theorem onlyPins_of_eq {s t : State} (h : t = { s with pins := t.pins }) : onlyPins s (.next t) := by
  rintro _ ⟨⟩
  exact h

theorem onlyPins_same {s t : State} (h : t = s) : onlyPins s (.next t) := onlyPins_of_eq (by rw [h])

/-- No command that reaches a live part does more than move a pin where none is live. -/
theorem exec_onlyPins {s : State} (h : s.live = false) {c : Instr} (hp : c = .pinReset → s.pins.refclk = false)
    (hr : ∀ b1 b0, c = .resetNRelease b1 b0 → s.pins.refclk = false) : onlyPins s (exec c s) := by
  have hoff : ∀ {p : Bool}, ¬ (s.live && p) = true := by simp [h]
  cases c with
  | pinReset => exact onlyPins_of_eq (by rw [pinReset, if_neg (by simp [hp rfl])])
  | resetNRelease b1 b0 => exact onlyPins_of_eq (by rw [resetNRelease, if_neg (by simp [hr b1 b0 rfl])])
  | refclkStop => exact onlyPins_of_eq rfl
  | refclkResume => exact onlyPins_of_eq rfl
  | startTransition => exact onlyPins_of_eq (by rw [takeTransition_of_not_live h]; rfl)
  | stopTransition ch => exact onlyPins_of_eq (by rw [takeTransition_of_not_live h]; rfl)
  | filterLapse line => exact onlyPins_same (if_neg (by simp [h]))
  | blankingEnd ch => exact onlyPins_same (if_neg (by simp [h]))
  | windowExpiry => exact onlyPins_same (if_neg hoff)
  | holdoffExpiry => exact onlyPins_same (if_neg hoff)
  | gapTimeout => exact onlyPins_same (if_neg hoff)
  | reportTimeout slot => exact onlyPins_same (if_neg (by simp [h]))
  | lineBreak => exact onlyPins_same (if_neg hoff)
  | receiveLineHighAgain => exact onlyPins_same (if_neg hoff)
  | requestReset b1 b0 => exact onlyPins_same (if_neg hoff)
  | frameSent => exact onlyPins_same (frameSent_of_not_live h)
  | requestFrameArrival seq code payload =>
    show onlyPins s (execRequestFrameArrival seq code payload s)
    unfold execRequestFrameArrival
    split
    · exact onlyPins_same (onCharacter_of_not_live h _)
    · intro t ht
      cases ht
  | byteReceived | linkAck | crcError | misdirectedFrame | framingError =>
    exact onlyPins_same (onCharacter_of_not_live h _)
  | identify | status | sessionOpen | sessionClose | linkStats | deviceReset | profileClear | profileSetGlobal
  | profileSetChannel | profileRead | profileCheck | profileSelect | arm | disarm | abort | start | resultRead | resultAck
  | queueStatus | unknownRequest =>
    exact onlyPins_same (takeRequest_of_not_live h _ _)

/-- Settles O6: without the reference, or with RESET_N held low, nothing is live. -/
theorem clockStopsEverything : Obligations.ClockStopsEverything := by
  refine ⟨fun s => ⟨rfl, rfl, fun hclock hp => ?_⟩, fun s t c h => ?_⟩
  · rw [step_of_nothing hp (internals_of_not_live (by simp [State.live, hclock]))]
    simp [basePeriod, hclock]
  · rcases h with hclock | ⟨hheld, hne, hnr⟩
    · exact exec_onlyPins (by simp [State.live, hclock]) (fun _ => hclock) (fun _ _ _ => hclock) t
    · exact exec_onlyPins (by simp [State.live, hheld]) (fun hc => absurd hc hne) (fun b1 b0 hc => absurd hc (hnr b1 b0)) t

/-! ### One base period (R2, R4, R6, R10, R11, R14, R132, R133) -/

theorem mem_lines (line : Line) : line ∈ lines := by
  cases line <;> simp [lines]

/-- The Timebase while the tick generator is stopped. -/
theorem tickTime_stopped {divisor : BitVec 16} {t : Timebase} (h : t.tickRunning = false) :
    tickTime divisor t = { t with epoch := t.epoch + 1 } := by
  simp [tickTime, h]

/-- The phase short of the divisor goes on, and at the divisor a tick comes (R4, R6). -/
theorem tickTime_running {divisor : BitVec 16} {t : Timebase} (h : t.tickRunning = true) :
    (tickTime divisor t).tickRunning = true ∧ (tickTime divisor t).counting = t.counting
      ∧ (t.phase.toNat + 1 < divisor.toNat →
          (tickTime divisor t).phase = t.phase + 1 ∧ (tickTime divisor t).elapsed = t.elapsed)
      ∧ (divisor.toNat ≤ t.phase.toNat + 1 → (tickTime divisor t).phase = 0
          ∧ (tickTime divisor t).elapsed = if t.counting = true then t.elapsed + 1 else t.elapsed) := by
  unfold tickTime
  rw [if_pos h]
  split
  · next hd => exact ⟨h, rfl, fun hlt => by omega, fun _ => ⟨rfl, rfl⟩⟩
  · next hd => exact ⟨h, rfl, fun _ => ⟨rfl, rfl⟩, fun hle => by omega⟩

theorem tickTime_epoch (divisor : BitVec 16) (t : Timebase) : (tickTime divisor t).epoch = t.epoch + 1 := by
  unfold tickTime
  split
  · split <;> rfl
  · rfl

theorem settle_eq (d : Due) : d.settle = if d = .justTimed then .byTimer else d := by
  cases d <;> rfl

/-- Settles O2: with nothing due the step is `advance`, field by field. -/
theorem basePeriodMovesTheTimers : Obligations.BasePeriodMovesTheTimers := by
  intro s hp hlive hhigh hi
  have hclock : s.pins.refclk = true ∧ s.held = false := by simpa [State.live] using hlive
  have hstep : step s = .next (advance s) := by
    simp [step_of_nothing hp hi, basePeriod, hclock, hhigh]
  refine ⟨advance s, hstep, tickTime_epoch _ _, tickTime_stopped, fun oc hoc hrun => ?_, rfl, fun i => ?_, rfl, fun line => ?_,
    rfl, ?_, rfl, rfl, fun ht => ?_, fun frame n source ht => ?_, fun frame slot before ht => ?_, ?_, rfl⟩
  · have hdivisor : s.divisor = oc.divisor := by simp [State.divisor, hoc]
    exact hdivisor ▸ tickTime_running hrun
  · simp [sampleLevels]
  · simp [advance, mem_lines, State.lineChanged]
  · exact List.Nodup.filter _ (by decide)
  · rcases ht with ht | ht <;> simp [advance, tickLink, ht, Transmitter.tick]
  · simp [advance, tickLink, ht, Transmitter.tick]
  · simp [advance, tickLink, ht, Transmitter.tick, frameSpan, Config.characterBits]
  · simp only [advance, tickLink, timerTick, settle_eq]

end Sys2Proof.Machine
end

section
/-! PROOF. What the serial line brings and takes (Section 8): bytes, bad frames, gaps and breaks, whole frames, and the end
of a frame sent. -/

namespace Sys2Proof.Machine

/-! ### Characters (R132, R137) -/

/-- What a character does when one can complete. -/
theorem onCharacter_of_canReceive {s : State} (f : HostLink → HostLink) (h : s.canReceive = true) :
    onCharacter f s = received s (f { s.link with receiver := s.link.receiver.completed }) := if_pos h

theorem takeBadCharacter_of_header {l : HostLink} {got : List Byte} {crc : BitVec 16} (h : l.framer = .header got crc) :
    takeBadCharacter l = frameError l := by
  unfold takeBadCharacter
  rw [h]

theorem takeBadCharacter_of_body {l : HostLink} {h : Header} {payload : List Byte} {low : Option Byte} {crc : BitVec 16}
    (hf : l.framer = .body h payload low crc) : takeBadCharacter l = frameError l := by
  unfold takeBadCharacter
  rw [hf]

theorem takeBadCharacter_of_hunt {l : HostLink} (h : l.framer = .hunt) : takeBadCharacter l = l := by
  unfold takeBadCharacter
  rw [h]

/-- Settles O20: each kind of bad frame is dropped and its own statistics count. -/
theorem badFramesAreCounted : Obligations.BadFramesAreCounted := by
  refine ⟨fun s hr => ⟨?_, ?_, fun cause hc => ?_⟩, fun s hr => ⟨fun got crc hf => ?_, fun h payload low crc hf => ?_, fun hf => ?_⟩⟩
  · exact congrArg Host.Outcome.next (onCharacter_of_canReceive checkError hr)
  · exact congrArg Host.Outcome.next (onCharacter_of_canReceive misdirected hr)
  · cases cause with
    | badCharacter => exact absurd rfl hc
    | badClass => exact congrArg Host.Outcome.next (onCharacter_of_canReceive frameError hr)
    | badLength => exact congrArg Host.Outcome.next (onCharacter_of_canReceive frameError hr)
    | badLinkAck => exact congrArg Host.Outcome.next (onCharacter_of_canReceive frameError hr)
  · refine congrArg Host.Outcome.next ((onCharacter_of_canReceive takeBadCharacter hr).trans ?_)
    exact congrArg (received s) (takeBadCharacter_of_header hf)
  · refine congrArg Host.Outcome.next ((onCharacter_of_canReceive takeBadCharacter hr).trans ?_)
    exact congrArg (received s) (takeBadCharacter_of_body hf)
  · refine congrArg Host.Outcome.next ((onCharacter_of_canReceive takeBadCharacter hr).trans ?_)
    exact congrArg (received s) (takeBadCharacter_of_hunt hf)

/-- Settles O22: in HUNT the framer reads nothing but the delimiter. -/
theorem delimiterOpensFrame : Obligations.DelimiterOpensFrame := by
  refine fun s b hr hf => ⟨fun hb => ?_, fun hb => ?_⟩
  · refine congrArg Host.Outcome.next ((onCharacter_of_canReceive (takeByte b) hr).trans (congrArg (received s) ?_))
    simp only [takeByte, hf]
    exact if_neg hb
  · refine congrArg Host.Outcome.next ((onCharacter_of_canReceive (takeByte b) hr).trans (congrArg (received s) ?_))
    simp only [takeByte, hf]
    refine (if_pos hb).trans ?_
    simp only [frameGoesOn, HostLink.gapLoad, HostLink.divisor, Config.bitDivisor, Config.gapCharacters, Config.characterBits,
      crcStart]
    cases s.link.baud1 <;> cases s.link.baud0 <;> rfl

/-! ### Gaps and breaks (R139, R140) -/

theorem breakFound_of_hears {s : State} (hlive : s.live = true) (hr : s.link.receiver.awaitsHigh = false) :
    takeBreak s = { s with link := breakFound s.link, pins := { s.pins with rxd := false } } :=
  if_pos (by simp [hlive, hr])

/-- Settles O21: only a receiver that has sampled the line high finds a break, and only one that has not finds it high
again. -/
theorem gapsAndBreaksDiscardFrames : Obligations.GapsAndBreaksDiscardFrames := by
  refine ⟨fun s hlive hgap hframe => ?_, fun s hlive => ⟨fun hr => ?_, fun hr => ⟨?_, fun b => ?_, ?_⟩⟩⟩
  · have hin : s.link.framer.inFrame = true := by
      obtain ⟨got, crc, hf⟩ | ⟨h, payload, low, crc, hf⟩ := hframe <;> rw [hf] <;> rfl
    exact congrArg Host.Outcome.next (if_pos (by simp [hlive, HostLink.gapDue, hin, hgap]))
  · have hhears : s.link.receiver.awaitsHigh = false := by
      obtain hf | ⟨age, bits, hf⟩ | ⟨age, hf⟩ := hr <;> rw [hf] <;> rfl
    exact congrArg Host.Outcome.next (breakFound_of_hears hlive hhears)
  · exact congrArg Host.Outcome.next (if_pos (by simp [hlive, Receiver.awaitsHigh, hr]))
  · exact congrArg Host.Outcome.next (if_neg (by simp [State.canReceive, Receiver.mayComplete, hr]))
  · exact congrArg Host.Outcome.next (if_neg (by simp [Receiver.awaitsHigh, hr]))

/-! ### Requests at the intake queue (R146, R168, R174) -/

theorem inFlight_iff (l : HostLink) (r : Request) : l.inFlight r = true ↔ inFlightNow l r.seq r.code := by
  simp [HostLink.inFlight, inFlightNow]

theorem cached_toList (l : HostLink) (r : Request) : (l.cached r).toList = repliesFor l r.seq r.code := rfl

section
variable {l : HostLink} {r : Request}

theorem offerRequest_inFlight (h : inFlightNow l r.seq r.code) :
    offerRequest r l = { l with stats := { l.stats with duplicatesInFlight := satInc l.stats.duplicatesInFlight } } :=
  if_pos ((inFlight_iff l r).mpr h)

theorem offerRequest_full (h : ¬ inFlightNow l r.seq r.code) (hfull : 4 ≤ l.intake.length) :
    offerRequest r l = { l with stats := { l.stats with intakeOverflows := satInc l.stats.intakeOverflows } } :=
  (if_neg (mt (inFlight_iff l r).mp h)).trans (if_pos hfull)

theorem offerRequest_appends (h : ¬ inFlightNow l r.seq r.code) (hroom : l.intake.length < 4) :
    offerRequest r l = { l with intake := l.intake ++ [r], copies := l.copies ++ repliesFor l r.seq r.code } :=
  (if_neg (mt (inFlight_iff l r).mp h)).trans (if_neg (Nat.not_le.mpr hroom))
end

theorem resumeSession_of_not_suspended {l : HostLink} (h : ∀ p, l.session ≠ .suspended p) : resumeSession l = l := by
  unfold resumeSession
  split
  next p hs => exact absurd hs (h p)
  · rfl
  · rfl

theorem resumeSession_of_suspended {l : HostLink} {p : SessionParams} (h : l.session = .suspended p) :
    resumeSession l = { l with session := .opened p, window := l.window.map (resumeReport l.transmitter.reportOnLine) } := by
  unfold resumeSession
  rw [h]

/-- A REQUEST frame that can be received is offered to the intake queue of the session resumed. -/
theorem exec_requestFrameArrival {s : State} (seq code : Byte) {payload : List Byte} (hr : s.canReceive = true)
    (hlen : payload.length ≤ 1024) :
    exec (.requestFrameArrival seq code payload) s
      = .next (received s (offerRequest ⟨seq, code, payload⟩ (resumeSession
          (frameTaken s.link { s.link.stats with goodFrames := satInc s.link.stats.goodFrames })))) :=
  (if_pos hlen).trans (congrArg Host.Outcome.next (onCharacter_of_canReceive _ hr))

/-- Settles O25: the three outcomes of the intake queue's test. -/
theorem requestsMeetTheIntakeQueue : Obligations.RequestsMeetTheIntakeQueue := by
  refine ⟨fun s seq code payload stats hr hlen hsession hstats => ?_, fun s seq code payload hlen => if_neg (Nat.not_le.mpr hlen)⟩
  have hlink : resumeSession (frameTaken s.link stats) = frameTaken s.link stats := resumeSession_of_not_suspended hsession
  rw [exec_requestFrameArrival seq code hr hlen, ← hstats, hlink]
  exact ⟨fun h => congrArg (fun l => Host.Outcome.next (received s l)) (offerRequest_inFlight h),
    fun h hfull => congrArg (fun l => Host.Outcome.next (received s l)) (offerRequest_full h hfull),
    fun h hroom => congrArg (fun l => Host.Outcome.next (received s l)) (offerRequest_appends h hroom)⟩

/-- Settles O26: the session resumes before the intake queue tests the request. -/
theorem requestResumesSession : Obligations.RequestResumesSession := by
  intro s p seq code payload stats resumed hr hlen hsession hstats hresumed
  have hlink : resumeSession (frameTaken s.link stats) = resumed :=
    (resumeSession_of_suspended (l := frameTaken s.link stats) hsession).trans hresumed.symm
  rw [exec_requestFrameArrival seq code hr hlen, ← hstats, hlink]
  subst hresumed
  exact ⟨fun h => congrArg (fun l => Host.Outcome.next (received s l)) (offerRequest_inFlight h),
    fun h hfull => congrArg (fun l => Host.Outcome.next (received s l)) (offerRequest_full h hfull),
    fun h hroom => congrArg (fun l => Host.Outcome.next (received s l)) (offerRequest_appends h hroom)⟩

/-! ### LINK-ACK (R165, R169) -/

theorem holdsReport_iff (l : HostLink) (seq : Byte) : l.holdsReport seq = true ↔ ∃ h ∈ l.window, h.seq = seq := by
  simp [HostLink.holdsReport]

theorem confirmReport_held {l : HostLink} {seq : Byte} (h : ∃ w ∈ l.window, w.seq = seq) :
    confirmReport seq l
      = { recallChosen seq l with window := (recallChosen seq l).window.filter fun w => !decide (w.seq = seq) } :=
  if_pos ((holdsReport_iff l seq).mpr h)

theorem confirmReport_stray {l : HostLink} {seq : Byte} (h : ∀ w ∈ l.window, w.seq ≠ seq) :
    confirmReport seq l = { l with stats := { l.stats with strayAcks := satInc l.stats.strayAcks } } :=
  if_neg (by simpa [holdsReport_iff] using h)

/-- A LINK-ACK of another report leaves the transmitter alone. -/
theorem recallChosen_of_not_chosen {l : HostLink} {seq : Byte}
    (h : ∀ frame slot before, l.transmitter = .chosen frame slot before → ¬ ∃ w ∈ l.window, w.slot = slot ∧ w.seq = seq) :
    recallChosen seq l = l := by
  unfold recallChosen
  split
  next frame slot before ht => exact if_neg (by simpa using h frame slot before ht)
  · rfl
  · rfl
  · rfl

theorem recallChosen_of_chosen {l : HostLink} {seq : Byte} {frame : List Byte} {slot : Fin 4} {before : BitVec 32}
    (ht : l.transmitter = .chosen frame slot before) (h : ∃ w ∈ l.window, w.slot = slot ∧ w.seq = seq) :
    recallChosen seq l = { l with transmitter := .idle, stats := { l.stats with retransmissions := before } } := by
  unfold recallChosen
  simp only [ht]
  exact if_pos (by simpa using h)

/-- Settles O27: a LINK-ACK frees the slots of its number, recalling a report only chosen. -/
theorem linkAckFreesItsSlot : Obligations.LinkAckFreesItsSlot := by
  intro s seq stats hr hstats
  have hexec : exec (.linkAck seq) s = .next (received s (confirmReport seq (frameTaken s.link stats))) := by
    rw [hstats]
    exact congrArg Host.Outcome.next (onCharacter_of_canReceive (arriveAck seq) hr)
  rw [hexec]
  refine ⟨fun hheld hchosen => ?_, fun frame slot before h ht hh hslot hseq => ?_, fun hstray => ?_⟩
  · rw [confirmReport_held (l := frameTaken s.link stats) hheld,
      recallChosen_of_not_chosen (l := frameTaken s.link stats) hchosen]
    rfl
  · rw [confirmReport_held (l := frameTaken s.link stats) ⟨h, hh, hseq⟩,
      recallChosen_of_chosen (l := frameTaken s.link stats) ht ⟨h, hh, hslot, hseq⟩]
    rfl
  · exact congrArg (fun l => Host.Outcome.next (received s l)) (confirmReport_stray hstray)

/-! ### The end of a frame, and report timers (R142, R163, R166, R167) -/

theorem frameSent_of_sending {s : State} {frame : List Byte} {source : FrameSource} (hlive : s.live = true)
    (ht : s.link.transmitter = .sending frame 0 source) :
    frameSent s = { s with link := { tellSource source s.link with transmitter := .ended } } := by
  unfold frameSent
  simp only [ht]
  exact if_pos hlive

theorem tellSource_report_opened {l : HostLink} {p : SessionParams} (slot : Fin 4) (h : l.session = .opened p) :
    tellSource (.report slot) l = { l with window := l.window.map (loadTimer slot (500000 * p.timeout.toNat)) } := by
  simp only [tellSource, h]
  rfl

theorem tellSource_report_shut {l : HostLink} {p : SessionParams} (slot : Fin 4)
    (h : l.session = .suspended p ∨ l.session = .closed) : tellSource (.report slot) l = l := by
  obtain h | h := h <;> simp only [tellSource, h]

/-- Settles O28: what the end of a frame tells its source. -/
theorem frameEndTellsItsSource : Obligations.FrameEndTellsItsSource := by
  refine fun s frame hlive => ⟨fun ht => ?_, fun ht => ?_, fun slot p ht hsession => ?_, fun slot p ht hsession => ?_⟩
  · exact congrArg Host.Outcome.next (frameSent_of_sending hlive ht)
  · exact congrArg Host.Outcome.next (frameSent_of_sending hlive ht)
  · refine congrArg Host.Outcome.next ((frameSent_of_sending hlive ht).trans ?_)
    rw [tellSource_report_opened slot hsession]
    rfl
  · refine congrArg Host.Outcome.next ((frameSent_of_sending hlive ht).trans ?_)
    rw [tellSource_report_shut slot hsession]

/-- With different slots held, the report found expired in a slot is the one held there. -/
theorem expired_eq_some {l : HostLink} {h : HeldReport} (hd : (l.window.map HeldReport.slot).Nodup) (hh : h ∈ l.window)
    (ht : h.timer = some 0) : l.expired h.slot = some h := by
  have hsome : (l.expired h.slot).isSome := List.find?_isSome.mpr ⟨h, hh, by simp [ht]⟩
  obtain ⟨w, hw⟩ := Option.isSome_iff_exists.mp hsome
  have hslot : w.slot = h.slot := by
    have hfound := List.find?_some hw
    simp only [Bool.and_eq_true, decide_eq_true_eq] at hfound
    exact hfound.1
  rw [hw, List.inj_on_of_nodup_map hd (List.mem_of_find?_eq_some hw) hh hslot]

theorem expireReport_opened {l : HostLink} {p : SessionParams} {h : HeldReport} {slot : Fin 4} (hs : l.session = .opened p)
    (he : l.expired slot = some h) :
    expireReport slot l = if h.attempts < 4 then { l with window := l.window.map (timeOutReport slot) }
      else suspendSession p l := by
  simp only [expireReport, hs, he]
  rfl

/-- Settles O29: the report found expired is the one held in its slot. -/
theorem reportTimerResendsOrSuspends : Obligations.ReportTimerResendsOrSuspends := by
  intro s p h hlive hsession hd hh ht
  have hexec : exec (.reportTimeout h.slot) s = .next { s with link := expireReport h.slot s.link } :=
    congrArg Host.Outcome.next (if_pos hlive)
  rw [hexec, expireReport_opened hsession (expired_eq_some hd hh ht)]
  refine ⟨fun hlt => ?_, fun hge => ?_⟩
  · rw [if_pos hlt]
    rfl
  · rw [if_neg (Nat.not_lt.mpr hge)]
    rfl

/-! ### Event reports (R161, R162) -/

theorem postEvent_closed (stamp : Epoch) (e : Event) {l : HostLink} (h : l.session = .closed) : postEvent stamp e l = l := by
  simp only [postEvent, h, Session.params]

theorem postEvent_of_params (stamp : Epoch) (e : Event) {l : HostLink} {p : SessionParams} (h : l.session.params = some p) :
    postEvent stamp e l = if p.notify.getLsbD e.kindBit then appendEvent stamp e l else l := by
  simp only [postEvent, h]

theorem makeEventRoom_of_room {l : HostLink} (h : l.events.length < 16) : makeEventRoom l = l := by
  unfold makeEventRoom
  split
  · rfl
  · exact if_neg (Nat.not_le.mpr h)

theorem makeEventRoom_of_full {l : HostLink} {oldest : EventReport} {rest : List EventReport} (h : l.events = oldest :: rest)
    (hfull : 16 ≤ l.events.length) :
    makeEventRoom l = { l with
      events := rest
      dropped := satAdd (satInc l.dropped) oldest.droppedBefore
      stats := { l.stats with eventsDropped := satInc l.stats.eventsDropped } } := by
  unfold makeEventRoom
  split
  next hnil => rw [h] at hnil; cases hnil
  next o r hcons =>
    rw [h] at hcons
    obtain ⟨rfl, rfl⟩ := List.cons.inj hcons
    exact if_pos hfull

theorem satAdd_satInc_byte (x y : Byte) : (satAdd (satInc x) y).toNat = min 255 (x.toNat + 1 + y.toNat) := by
  rw [satInc_byte, satAdd]
  by_cases hx : x = 0xFF
  · subst hx
    simp only [if_true]
    split <;> simp <;> bv_omega
  · rw [if_neg hx]
    have hinc : (x + 1).toNat = x.toNat + 1 := by bv_omega
    have hy := y.isLt
    split
    next hlt => rw [BitVec.toNat_add, hinc]; omega
    next hge => rw [BitVec.toNat_allOnes]; omega

/-- Settles O32: an event is let go, appended, or appended in the place of the oldest. -/
theorem eventsBecomeReports : Obligations.EventsBecomeReports := by
  refine fun l stamp e p => ⟨postEvent_closed stamp e, fun hs => ?_⟩
  have hp : l.session.params = some p := by
    obtain h | h := hs <;> rw [h] <;> rfl
  rw [postEvent_of_params stamp e hp]
  refine ⟨fun hn => if_neg (by simp [hn]), fun hn hroom => ?_, fun oldest rest hn he hfull => ?_⟩
  · rw [if_pos hn, appendEvent, makeEventRoom_of_room hroom]
  · refine ⟨_, satAdd_satInc_byte l.dropped oldest.droppedBefore, ?_⟩
    rw [if_pos hn, appendEvent, makeEventRoom_of_full he hfull]

end Sys2Proof.Machine
end

section
/-! PROOF. The rows that take a request (Sections 8 and 9): what each does when no request can be taken, when the reply is
cached and when the common checks refuse; and the Host Link's own requests. -/

namespace Sys2Proof.Machine

/-! ### The rows that take a request (R147) -/

/-- The row of a code takes the first request waiting, if it has that code. -/
theorem exec_requestCommand (code : Byte) : ∃ mine carryOut, mine code = true
    ∧ ∀ s, exec (requestCommand code) s = .next (takeRequest mine carryOut s) := by
  unfold requestCommand
  split
  case h_20 => -- the code of no request
    refine ⟨fun c => !knownCode c, fun _ t => t, ?_, fun _ => rfl⟩
    suffices code.toNat = 0 ∨ 19 < code.toNat by
      simp only [knownCode, Bool.not_eq_true', Bool.and_eq_false_iff, decide_eq_false_iff_not]
      omega
    grind
  all_goals
    next hcode => exact ⟨_, _, decide_eq_true (BitVec.eq_of_toNat_eq hcode), fun _ => rfl⟩

/-- Every one of the twenty rows takes a request. -/
theorem exec_requestRow {c : Instr} (h : c ∈ requestRows) :
    ∃ mine carryOut, ∀ s, exec c s = .next (takeRequest mine carryOut s) := by
  fin_cases h <;> exact ⟨_, _, fun _ => rfl⟩

theorem takeRequest_of_not_canTake {s : State} (mine : Byte → Bool) (carryOut : Request → State → State)
    (h : s.canTake = false) : takeRequest mine carryOut s = s := by
  unfold takeRequest
  split
  · rfl
  · exact if_neg (by simp [h])

/-- No row does anything while no request can be taken. -/
theorem exec_requestRow_of_not_canTake {s : State} (h : s.canTake = false) : ∀ c ∈ requestRows, exec c s = .next s := by
  intro c hc
  obtain ⟨mine, carryOut, hexec⟩ := exec_requestRow hc
  rw [hexec, takeRequest_of_not_canTake mine carryOut h]

/-! ### Replies from the cache (R147, R148, R174) -/

/-- The first reply of a request's number and code is the one found. -/
theorem find?_answers {r : Request} {before after : List Reply} {e : Reply}
    (hb : ∀ w ∈ before, ¬ (w.seq = r.seq ∧ w.code = r.code)) (hseq : e.seq = r.seq) (hcode : e.code = r.code) :
    (before ++ e :: after).find? (·.answers r) = some e := by
  have hnone : before.find? (·.answers r) = none := List.find?_eq_none.mpr fun w hw => by simpa using hb w hw
  rw [List.find?_append, hnone, Option.none_or, List.find?_cons_of_pos (by simp [hseq, hcode])]

/-- Settles O38: the reply found in the cache, or kept with the request, is the answer. -/
theorem repeatsAreAnsweredFromCache : Obligations.RepeatsAreAnsweredFromCache := by
  intro s forgotten r rest before after e ht hforgotten hbefore hseq hcode
  have hanswer : answerFromCache e (popIntake (forgetCopy r s)) = answeredAgain forgotten rest e := by
    subst hforgotten
    have htail : s.link.intake.tail = rest := by rw [ht.2.2.1]; rfl
    simp only [answerFromCache, popIntake, forgetCopy, answeredAgain, queueReply, htail, Reply.answers]
  obtain ⟨mine, carryOut, hmine, hexec⟩ := exec_requestCommand r.code
  rw [hexec s, ← hanswer]
  refine ⟨fun hcache => ?_, fun hcache hcopies => ?_⟩
  · have hfound : s.link.cached r = some e := by rw [HostLink.cached, hcache, find?_answers hbefore hseq hcode]
    exact ⟨congrArg Host.Outcome.next (takeRequest_cached ht hmine hfound),
      fun hstats => congrArg Host.Outcome.next (takeRequest_cached ht (decide_eq_true hstats) hfound)⟩
  · have hnone : s.link.cached r = none := List.find?_eq_none.mpr fun w hw => by simpa using hcache w hw
    have hfound : s.link.foundAtArrival r = some e := by
      rw [HostLink.foundAtArrival, hcopies, find?_answers hbefore hseq hcode]
    exact ⟨congrArg Host.Outcome.next (takeRequest_foundAtArrival ht hmine hnone hfound),
      fun hstats => congrArg Host.Outcome.next (takeRequest_foundAtArrival ht (decide_eq_true hstats) hnone hfound)⟩

/-! ### The common checks (R150) -/

section
variable {r : Request} {session : Session}

theorem commonChecks_unknown (h : knownCode r.code = false) : commonChecks r session = some .unknown := by
  simp [commonChecks, h]

theorem commonChecks_format (h : knownCode r.code = true) (hf : formatAllowed r.code r.payload = false) :
    commonChecks r session = some .format := by
  simp [commonChecks, h, hf]

theorem commonChecks_noSession (h : knownCode r.code = true) (hf : formatAllowed r.code r.payload = true)
    (hs : session = .closed) (ha : allowedClosed r.code = false) : commonChecks r session = some .noSession := by
  simp [commonChecks, h, hf, hs, ha]
end

/-- A request that no reply answers and the common checks refuse leaves nothing but its refusal. -/
theorem exec_requestCommand_refused {s : State} {r : Request} {rest : List Request} {st : Status} (ht : s.takes r rest)
    (hn : s.link.noReplyFor r) (hst : commonChecks r s.link.session = some st) :
    exec (requestCommand r.code) s = .next (s.answeredWith r rest st 0 []) := by
  obtain ⟨mine, carryOut, hmine, hexec⟩ := exec_requestCommand r.code
  rw [hexec, takeRequest_unanswered ht hmine (cached_eq_none hn) (foundAtArrival_eq_none hn), dealWith, hst]
  exact congrArg Host.Outcome.next (completeWith_popIntake ht.2.2.1 (.refuse st))

/-- As the row named by the code. -/
theorem exec_row_refused {s : State} {r : Request} {rest : List Request} {st : Status} {i : Instr} (ht : s.takes r rest)
    (hn : s.link.noReplyFor r) (hi : requestCommand r.code = i) (hst : commonChecks r s.link.session = some st) :
    exec i s = .next (s.answeredWith r rest st 0 []) :=
  hi ▸ exec_requestCommand_refused ht hn hst

theorem requestCommand_unknown {code : Byte} (h : code = 0 ∨ 0x13 < code.toNat) :
    requestCommand code = .unknownRequest ∧ knownCode code = false := by
  have hnat : code.toNat = 0 ∨ 19 < code.toNat := h.imp_left fun h => by rw [h]; rfl
  constructor
  · unfold requestCommand
    split
    case h_20 => rfl
    all_goals omega
  · simp [knownCode]
    omega

theorem format_of_no_payload {code : Byte} {payload : List Byte}
    (h : code ∈ ([0x01, 0x02, 0x04, 0x06, 0x0D, 0x0E, 0x0F, 0x10, 0x13] : List Byte)) (hp : payload ≠ []) :
    knownCode code = true ∧ formatAllowed code payload = false := by
  have hlen : decide (payload.length = 0) = false := decide_eq_false (by simpa using hp)
  fin_cases h <;> exact ⟨rfl, hlen⟩

theorem format_of_one_byte {code : Byte} {payload : List Byte}
    (h : code ∈ ([0x05, 0x07, 0x0A, 0x0B, 0x0C] : List Byte)) (hp : payload.length ≠ 1) :
    knownCode code = true ∧ formatAllowed code payload = false := by
  have hlen : decide (payload.length = 1) = false := decide_eq_false hp
  fin_cases h <;> exact ⟨rfl, hlen⟩

/-- A payload that can be divided into tagged fields has no part of one left over and no bad tag (R173). -/
theorem of_taggedFields_isSome {l : List Byte} (h : (taggedFields l).isSome = true) :
    l.length % 5 = 0 ∧ ∀ n tag, l[5 * n]? = some tag → badTag tag = false := by
  induction l using taggedFields.induct with
  | case1 => simp
  | case2 tag b0 b1 b2 b3 rest hbad => simp [taggedFields, hbad] at h
  | case3 tag b0 b1 b2 b3 rest hgood ih =>
    obtain ⟨hlength, htags⟩ := ih (by simpa [taggedFields, hgood] using h)
    refine ⟨by simp only [List.length_cons]; omega, fun n t ht => ?_⟩
    cases n with
    | zero =>
      obtain rfl : tag = t := by simpa using ht
      simpa using hgood
    | succ n =>
      have hindex : 5 * (n + 1) = 5 * n + 1 + 1 + 1 + 1 + 1 := by omega
      simp only [hindex, List.getElem?_cons_succ] at ht
      exact htags n t ht
  | case4 | case5 | case6 | case7 => simp [taggedFields] at h

/-- A SET request whose payload cannot be divided into its fields. -/
theorem fieldsAfter_eq_none {fixed : Nat} {payload : List Byte}
    (h : payload.length < fixed ∨ (payload.length - fixed) % 5 ≠ 0
      ∨ ∃ n tag, payload[fixed + 5 * n]? = some tag ∧ (tag = 0 ∨ 0xF0 ≤ tag.toNat)) :
    (fieldsAfter fixed payload).isSome = false := by
  by_contra hsome
  rw [Bool.not_eq_false, fieldsAfter] at hsome
  split at hsome
  next hlen =>
    obtain ⟨hlength, htags⟩ := of_taggedFields_isSome hsome
    obtain hshort | hpart | ⟨n, tag, htag, hbad⟩ := h
    · omega
    · exact hpart (by simpa using hlength)
    · have hgood := htags n tag (by simpa using htag)
      simp only [badTag, Bool.or_eq_false_iff, decide_eq_false_iff_not] at hgood
      exact hbad.elim hgood.1 hgood.2
  · exact absurd hsome (by simp)

/-- The codes from SESSION CLOSE up that need a session (R150 step 3). -/
theorem not_allowedClosed {code : Byte} (hlow : 0x04 ≤ code.toNat) (h5 : code ≠ 0x05) (h6 : code ≠ 0x06) :
    allowedClosed code = false := by
  simp only [allowedClosed, Bool.or_eq_false_iff, decide_eq_false_iff_not]
  refine ⟨⟨⟨⟨?_, ?_⟩, ?_⟩, h5⟩, h6⟩ <;> bv_omega

/-- Settles O37: each of the common checks, on the codes it concerns. -/
theorem commonChecksRefuse : Obligations.CommonChecksRefuse := by
  refine ⟨fun s r rest ht hn => ⟨fun hc => ?_, fun hc hp => ?_, fun hc hp => ?_, fun hc h2 h3 => ?_, fun hc hp => ?_,
    fun hc hp => ?_, fun hs hlow hhigh h5 h6 hf => ?_⟩, fun s r rest ht hn => ⟨fun hc hp => ?_, fun hc hp => ?_⟩⟩
  · obtain ⟨hrow, hunknown⟩ := requestCommand_unknown hc
    exact exec_row_refused ht hn hrow (commonChecks_unknown hunknown)
  · obtain ⟨hknown, hformat⟩ := format_of_no_payload hc hp
    exact exec_requestCommand_refused ht hn (commonChecks_format hknown hformat)
  · obtain ⟨hknown, hformat⟩ := format_of_one_byte hc hp
    exact exec_requestCommand_refused ht hn (commonChecks_format hknown hformat)
  · refine exec_row_refused ht hn (by rw [hc]; rfl) (commonChecks_format (by rw [hc]; rfl) ?_)
    rw [hc]
    exact Bool.or_eq_false_iff.mpr ⟨decide_eq_false h2, decide_eq_false h3⟩
  · refine exec_row_refused ht hn (by rw [hc]; rfl) (commonChecks_format (by rw [hc]; rfl) ?_)
    rw [hc]
    exact Bool.or_eq_false_iff.mpr ⟨decide_eq_false (by omega), decide_eq_false (by omega)⟩
  · refine exec_row_refused ht hn (by rw [hc]; rfl) (commonChecks_format (by rw [hc]; rfl) ?_)
    rw [hc]
    exact decide_eq_false hp
  · have hknown : knownCode r.code = true := by
      simp only [knownCode, Bool.and_eq_true, decide_eq_true_eq]
      exact ⟨Nat.le_trans (by decide) hlow, hhigh⟩
    exact exec_requestCommand_refused ht hn (commonChecks_noSession hknown hf hs (not_allowedClosed hlow h5 h6))
  · refine exec_row_refused ht hn (by rw [hc]; rfl) (commonChecks_format (by rw [hc]; rfl) ?_)
    rw [hc]
    exact fieldsAfter_eq_none (hp.imp_left fun hnil => by simp [hnil])
  · refine exec_row_refused ht hn (by rw [hc]; rfl) (commonChecks_format (by rw [hc]; rfl) ?_)
    rw [hc]
    exact fieldsAfter_eq_none hp

/-! ### IDENTIFY and STATUS (R154, R155) -/

theorem identifyBody_eq (l : HostLink) : identifyBody l =
    [0x4A, 0x0E, 0x04, 0x12, 0x01, 0x0C, 0x18, 0xA0, 0x00, 0xC0, 0x00, 0x04, 0x04, 0x04, 0x10, 0x04,
      (if l.cause = .pin then 0x00 else 0x01),
      (if l.baud1 = true then (if l.baud0 = true then 0x03 else 0x02) else if l.baud0 = true then 0x01 else 0x00)] := by
  unfold identifyBody
  cases l.cause <;> cases l.baud1 <;> cases l.baud0 <;> rfl

section
variable (s : State)

theorem length_statusBody : (statusBody s).length = 24 + if s.engine.endReason = none then 0 else 1 := by
  cases h : s.engine.endReason <;> simp [statusBody, h]

/-- The run's numbers, and the numbers of the active profile and the pending selection, 0 where there is none. -/
theorem statusBody_shows_numbers :
    fieldAt (statusBody s) 1 2 = s.engine.runNumber.toNat
      ∧ fieldAt (statusBody s) 3 2 = s.engine.cyclesDone.toNat
      ∧ fieldAt (statusBody s) 7 2 = ((s.engine.active.map fun a : ActiveProfile => a.profile.runLength).getD 0).toNat
      ∧ fieldAt (statusBody s) 9 1 = ((s.engine.active.map fun a : ActiveProfile => slotByte a.slot).getD 0).toNat
      ∧ fieldAt (statusBody s) 10 2 = ((s.engine.active.map fun a : ActiveProfile => a.revision).getD 0).toNat
      ∧ fieldAt (statusBody s) 12 1 = ((s.store.selected.map slotByte).getD 0).toNat
      ∧ fieldAt (statusBody s) 13 4 = s.engine.cycleCounter.toNat
      ∧ fieldAt (statusBody s) 17 2 = s.engine.missed.toNat
      ∧ fieldAt (statusBody s) 19 2 = s.inputs.rejectedStarts.toNat := by
  simp [statusBody, fieldAt_cons, fieldAt_bytesOf_append, fieldAt_bytesOf]

/-- The state codes, the counts of the queue and the flags. -/
theorem statusBody_shows_codes :
    (statusBody s).getD 0 0xFF = s.engine.state.code
      ∧ (statusBody s).getD 5 0xFF = flagByte s.engine.stopRequest
      ∧ (statusBody s).getD 6 0xFF
        = (if s.engine.active.isSome then 0x01 else 0) ||| (if s.store.selected.isSome then 0x02 else 0)
      ∧ (statusBody s).getD 21 0xFF = s.link.session.code
      ∧ (statusBody s).getD 22 0xFF = countByte s.queue.entries.length
      ∧ (statusBody s).getD 23 0xFF = flagByte s.engine.closeBuffer.isSome
      ∧ (statusBody s).drop 24 = (s.engine.endReason.map fun reason : RunEndReason => reason.code).toList := by
  simp [statusBody, bytesOf, littleEndian]

/-- Absent fields are sent as zero (R171). -/
theorem statusBody_absent :
    (s.engine.active = none → ((statusBody s).drop 7).take 5 = [0, 0, 0, 0, 0])
      ∧ (s.store.selected = none → (statusBody s).getD 12 0xFF = 0) := by
  constructor <;> intro h <;> simp [statusBody, bytesOf, littleEndian, h]

end

theorem sessionCode_eq (session : Session) :
    session.code = match session with | .closed => 0 | .opened _ => 1 | .suspended _ => 2 := by
  cases session <;> rfl

/-- Settles O33: each field of the two replies, read back in its place. -/
theorem identifyAndStatusReplies : Obligations.IdentifyAndStatusReplies := by
  refine ⟨fun s r rest hr hcode => ?_, fun s r rest hr hcode => ?_⟩
  · rw [← identifyBody_eq s.link]
    exact exec_only_answers (a := .okWith _) (fun _ => rfl) hr hcode rfl
  · obtain ⟨hrun, hdone, hlength, hslot, hrevision, hselected, hcycle, hmissed, hrejected⟩ := statusBody_shows_numbers s
    obtain ⟨hstate, hstop, hflags, hsession, hcount, hbuffer, hreason⟩ := statusBody_shows_codes s
    refine ⟨statusBody s, exec_only_answers (a := .okWith _) (fun _ => rfl) hr hcode rfl, length_statusBody s, ?_, hrun,
      hdone, ?_, fun a ha => ⟨hlength.trans ?_, hslot.trans ?_, hrevision.trans ?_⟩, fun k hk => hselected.trans ?_, ?_,
      (statusBody_absent s).1, (statusBody_absent s).2, hcycle, hmissed, hrejected, ?_, hcount, ?_, ?_⟩
    · rw [hstate]
      cases s.engine.state <;> rfl
    · exact hstop
    · rw [ha]
      rfl
    · rw [ha]
      exact slotByte_toNat a.slot
    · rw [ha]
      rfl
    · rw [hk]
      exact slotByte_toNat k
    · rw [hflags]
      cases s.engine.active <;> cases s.store.selected <;> simp
    · rw [hsession]
      cases s.link.session <;> rfl
    · rw [hbuffer]
      cases s.engine.closeBuffer <;> rfl
    · rw [hreason]
      cases s.engine.endReason with
      | none => rfl
      | some reason => cases reason <;> rfl

/-! ### Sessions (R151 to R153) -/

section
variable {r : Request} {s : State} {mode notify timeout : Byte}
  (hp : r.payload = [mode, notify, timeout] ∨ (r.payload = [mode, notify] ∧ timeout = 25))
include hp

theorem openFields_of_payload : payloadByte 0 r = mode ∧ payloadByte 1 r = notify
    ∧ timeoutOf r = if timeout = 0 then none else some timeout := by
  obtain h | ⟨h, ht⟩ := hp
  · simp [payloadByte, timeoutOf, h]
  · simp [payloadByte, timeoutOf, h, ht]

theorem carryOpen_opens (hm : mode.toNat ≤ 1) (hn : notify.toNat ≤ 15) (ht : timeout ≠ 0) :
    carryOpen r s = (openSession ⟨if mode = 0 then .pull else .push, notify.setWidth 4, timeout⟩ s,
      .okWith [s.link.session.code]) := by
  obtain ⟨h0, h1, h2⟩ := openFields_of_payload hp
  have hmode : DeliveryMode.ofByte mode = some (if mode = 0 then .pull else .push) := by
    have hcases : mode = 0 ∨ mode = 1 := by bv_omega
    obtain rfl | rfl := hcases <;> rfl
  have hnotify : notifyOf notify = some (notify.setWidth 4) := if_pos (by omega)
  simp only [carryOpen, h0, h1, h2, hmode, hnotify, if_neg ht]

theorem carryOpen_mode (hm : 1 < mode.toNat) : carryOpen r s = (s, .range modeField) := by
  obtain ⟨h0, -, -⟩ := openFields_of_payload hp
  have hmode : DeliveryMode.ofByte mode = none := by
    have hzero : mode ≠ 0 := by bv_omega
    have hone : mode ≠ 1 := by bv_omega
    rw [DeliveryMode.ofByte, if_neg hzero, if_neg hone]
  simp only [carryOpen, h0, hmode]

theorem ofByte_isSome (hm : mode.toNat ≤ 1) : ∃ m, DeliveryMode.ofByte mode = some m := by
  have hcases : mode = 0 ∨ mode = 1 := by bv_omega
  obtain rfl | rfl := hcases <;> exact ⟨_, rfl⟩

theorem carryOpen_notify (hm : mode.toNat ≤ 1) (hn : 15 < notify.toNat) : carryOpen r s = (s, .range notifyField) := by
  obtain ⟨h0, h1, -⟩ := openFields_of_payload hp
  obtain ⟨m, hmode⟩ := ofByte_isSome hp hm
  have hnotify : notifyOf notify = none := if_neg (by omega)
  simp only [carryOpen, h0, h1, hmode, hnotify]

theorem carryOpen_timeout (hm : mode.toNat ≤ 1) (hn : notify.toNat ≤ 15) (ht : timeout = 0) :
    carryOpen r s = (s, .range timeoutField) := by
  obtain ⟨h0, h1, h2⟩ := openFields_of_payload hp
  obtain ⟨m, hmode⟩ := ofByte_isSome hp hm
  have hnotify : notifyOf notify = some (notify.setWidth 4) := if_pos (by omega)
  simp only [carryOpen, h0, h1, h2, hmode, hnotify, if_pos ht]

end

/-- Settles O34: the fields tested in order, and the reports emptied. -/
theorem sessionsOpenAndClose : Obligations.SessionsOpenAndClose := by
  refine ⟨fun s r rest mode notify timeout hr hcode hp => ⟨fun hm hn ht => ?_, fun hm => ?_, fun hm hn => ?_,
    fun hm hn ht => ?_⟩, fun s r rest hr hcode => ?_⟩
  · refine (exec_answers (t := openSession ⟨_, _, _⟩ s) (a := .okWith [s.link.session.code]) (fun _ => rfl) hr hcode
      (carryOpen_opens hp hm hn ht) rfl).trans ?_
    rw [sessionCode_eq]
    rfl
  · exact exec_only_answers (fun _ => rfl) hr hcode (carryOpen_mode hp hm)
  · exact exec_only_answers (fun _ => rfl) hr hcode (carryOpen_notify hp hm hn)
  · exact exec_only_answers (fun _ => rfl) hr hcode (carryOpen_timeout hp hm hn ht)
  · exact exec_answers (t := { s with link := { emptyReports s.link with session := .closed } }) (a := .okWith [])
      (fun _ => rfl) hr hcode rfl rfl

/-! ### LINK STATS (R144, R145) -/

theorem linkStats_bytes_eq (s : LinkStats) : s.bytes = ([s.goodFrames, s.crcErrors, s.framingErrors, s.gapTimeouts, s.breaks,
    s.intakeOverflows, s.duplicatesCached, s.duplicatesInFlight, s.misdirected, s.strayAcks, s.retransmissions, s.suspensions,
    s.eventsDropped].map fun n => littleEndian 4 n.toNat).flatten := rfl

section
variable {clear : State → State} {r : Request} {s : State}

theorem readStats_keeps (h : payloadByte 0 r = 0) : readStats clear r s = (s, .okWith s.link.stats.bytes) := if_pos h

theorem readStats_clears (h : payloadByte 0 r = 1) : readStats clear r s = (clear s, .okWith s.link.stats.bytes) :=
  (if_neg (by rw [h]; decide)).trans (if_pos h)

theorem readStats_range (h0 : payloadByte 0 r ≠ 0) (h1 : payloadByte 0 r ≠ 1) :
    readStats clear r s = (s, .range clearField) := (if_neg h0).trans (if_neg h1)
end

theorem not_canTake_of_clearDue {s : State} (h : s.link.clearDue = true) : s.canTake = false := by
  simp [State.canTake, h]

/-- Settles O35: LINK STATS in one step and in two. -/
theorem linkStatsReadAndClear : Obligations.LinkStatsReadAndClear := by
  refine ⟨fun s r rest flag body hr hcode hp hbody => ?_, fun s hlive hdue => ⟨?_, ?_, ?_⟩⟩
  · rw [← linkStats_bytes_eq] at hbody
    have hflag : payloadByte 0 r = flag := payloadByte_zero hp
    subst hbody
    refine ⟨fun h => ?_, fun h => ?_, fun h => ?_, fun h0 h1 => ?_⟩
    · exact ⟨exec_only_answers (a := .okWith _) (fun _ => rfl) hr hcode (readStats_keeps (hflag.trans h)),
        congrArg Host.Outcome.next (takeRequest_answers (t := s) hr hcode (readStats_keeps (hflag.trans h)) rfl)⟩
    · have hnone : s.link.clearDue = false := hr.1.2.2.2.2.2
      have hcleared : clearStats (popIntake s) = popIntake { s with link := { s.link with
          stats := LinkStats.zero, transmitter := s.link.transmitter.clearBefore } } := by
        simp only [clearStats, popIntake, hnone]
      exact exec_answers (a := .okWith s.link.stats.bytes) (fun _ => rfl) hr hcode
        ((readStats_clears (hflag.trans h)).trans (congrArg (·, _) hcleared)) rfl
    · exact congrArg Host.Outcome.next (takeRequest_answers (a := .okWith s.link.stats.bytes)
        (f := readStats fun u => { u with link := { u.link with clearDue := true } })
        (t := { s with link := { s.link with clearDue := true } }) hr hcode (readStats_clears (hflag.trans h)) rfl)
    · subst hflag
      exact ⟨exec_only_answers (a := .range _) (fun _ => rfl) hr hcode (readStats_range h0 h1),
        congrArg Host.Outcome.next (takeRequest_answers (t := s) hr hcode (readStats_range h0 h1) rfl)⟩
  · simp [internals, hlive, hdue]
  · exact exec_requestRow_of_not_canTake (not_canTake_of_clearDue hdue)
  · exact congrArg Host.Outcome.next (if_pos (by simp [hlive, hdue]))

/-! ### DEVICE RESET (R157) -/

theorem not_canTake_of_resetTaken {s : State} {seq : Byte} (h : s.link.resetTaken = some seq) : s.canTake = false := by
  simp [State.canTake, h]

/-- Settles O36: the reset taken keeps every row from taking a request. -/
theorem deviceResetStopsTheIntake : Obligations.DeviceResetStopsTheIntake := by
  intro s r rest hr hcode
  have htail : s.link.intake.tail = rest := by rw [hr.1.2.2.1]; rfl
  refine ⟨_, congrArg Host.Outcome.next (takeRequest_carriesOut hr (decide_eq_true hcode)), rfl, htail, rfl, ?_, rfl,
    exec_requestRow_of_not_canTake (not_canTake_of_resetTaken (seq := r.seq) rfl)⟩
  exact (congrArg (fun t : State => t.link.cache) (completeWith_popIntake hr.1.2.2.1 (.okWith [])) :)

end Sys2Proof.Machine
end

section
/-! PROOF. PROFILE SET CHANNEL (R98 to R100): its three tests in their order, then its tagged fields written to one channel. -/

namespace Sys2Proof.Machine

theorem traceOf_eq_some_iff {n : Nat} {v : Bool} : traceOf n = some v ↔ n = 0 ∧ v = false ∨ n = 1 ∧ v = true := by
  unfold traceOf
  split <;> simp_all [eq_comm]

/-- A channel field is written exactly as the tables say. -/
theorem writeChannel_eq_some_iff (f : TaggedField) (c d : ChannelFields) :
    writeChannel f c = some d ↔ writesChannel f.1.toNat f.2.toNat c d := by
  unfold writeChannel writesChannel
  split
  case h_6 => simp_all -- the tag of no channel field
  all_goals
    next htag =>
    simp [htag, inRange_eq_some_iff, edgeSelection_ofCode_eq_some_iff, traceOf_eq_some_iff, or_and_right, and_assoc,
      exists_or, eq_comm (a := d)]

theorem channelOf_eq_some {c : Byte} {ch : Channel} (h : c.toNat = ch.val + 1) : channelOf c = some ch := by
  have hrange : 1 ≤ c.toNat ∧ c.toNat ≤ 12 := by omega
  rw [channelOf, dif_pos hrange]
  exact congrArg some (Fin.ext (by simp [h]))

theorem channelOf_eq_none {c : Byte} (h : c = 0 ∨ 12 < c.toNat) : channelOf c = none := by
  refine dif_neg fun ⟨hlow, hhigh⟩ => ?_
  obtain rfl | hlarge := h
  · exact absurd hlow (by decide)
  · omega

/-- The fields of a PROFILE SET CHANNEL that passes the common checks. -/
theorem setChannel_fields {r : Request} {session : Session} {b c : Byte} {fields : List TaggedField}
    (h : commonChecks r session = none) (hc : r.code = 0x09)
    (hp : r.payload = b :: c :: (fields.map fieldBytes).flatten) : fieldsAfter 2 r.payload = some fields := by
  have hf := formatAllowed_of_commonChecks h
  rw [hc, hp] at hf
  rw [hp]
  exact taggedFields_flatten hf

section
variable {r : Request} {s : State} {k : Fin 4} {ch : Channel} {fields : List TaggedField} {rev : BitVec 16} {p : Profile}

theorem setChannel_noSlot (h : slotOf (payloadByte 0 r) = none) : setChannel r s = (s, .range slotField) := by
  simp [setChannel, h]

theorem setChannel_noChannel (h : slotOf (payloadByte 0 r) = some k) (hc : channelOf (payloadByte 1 r) = none) :
    setChannel r s = (s, .range channelField) := by
  simp [setChannel, h, hc]

theorem setChannel_selected (h : slotOf (payloadByte 0 r) = some k) (hc : channelOf (payloadByte 1 r) = some ch)
    (hs : s.store.selected = some k) : setChannel r s = (s, .refuse .inUse) := by
  simp [setChannel, h, hc, hs]

theorem setChannel_writes {d : ChannelFields} (h : slotOf (payloadByte 0 r) = some k)
    (hc : channelOf (payloadByte 1 r) = some ch) (hs : s.store.selected ≠ some k)
    (hf : fieldsAfter 2 r.payload = some fields) (hb : startsFrom (s.store.slots.get k) rev p)
    (hw : writesAll writesChannel [] fields (p.chans.get ch) d) :
    setChannel r s = (setSlot k (.draft rev { p with chans := p.chans.set ch d }) s, .okWith (bytesOf 2 rev)) := by
  obtain ⟨hbase, hrev⟩ := base_revision_of_startsFrom hb
  simp [setChannel, h, hc, hs, hf, hbase, hrev, writtenSlot, writeFields_of_writesAll writeChannel_eq_some_iff hw]

theorem setChannel_refuses {tag : Byte} (h : slotOf (payloadByte 0 r) = some k)
    (hc : channelOf (payloadByte 1 r) = some ch) (hs : s.store.selected ≠ some k)
    (hf : fieldsAfter 2 r.payload = some fields) (hb : startsFrom (s.store.slots.get k) rev p)
    (hw : refusesAt writesChannel [] fields (p.chans.get ch) tag) : setChannel r s = (s, .range tag) := by
  obtain ⟨hbase, -⟩ := base_revision_of_startsFrom hb
  simp [setChannel, h, hc, hs, hf, hbase, writeFields_of_refusesAt writeChannel_eq_some_iff hw]

end

/-- Settles O41: the three tests in order, and the fields written to one channel of the slot's contents. -/
theorem setChannelWritesItsField : Obligations.SetChannelWritesItsField := by
  intro s r rest b c fields hr hcode hp
  have hfields : fieldsAfter 2 r.payload = some fields := setChannel_fields hr.2.2 hcode hp
  have hbyte : payloadByte 1 r = c := by simp [payloadByte, hp]
  refine ⟨fun hb => ?_, fun hb hc => ?_, fun k ch hk hch => ?_⟩
  · exact exec_only_answers (fun _ => rfl) hr hcode (setChannel_noSlot (slotNumber_eq_none hp hb))
  · have hslot : slotOf (payloadByte 0 r) = some ⟨b.toNat, by omega⟩ := slotNumber_eq_some hp rfl
    exact exec_only_answers (fun _ => rfl) hr hcode (setChannel_noChannel hslot (hbyte ▸ channelOf_eq_none hc))
  have hslot : slotOf (payloadByte 0 r) = some k := slotNumber_eq_some hp hk
  have hchannel : channelOf (payloadByte 1 r) = some ch := hbyte ▸ channelOf_eq_some hch
  refine ⟨fun hs => ?_, fun rev p hs hstart => ⟨fun d hw => ?_, fun tag hw => ?_⟩⟩
  · exact exec_only_answers (fun _ => rfl) hr hcode (setChannel_selected hslot hchannel hs)
  · have hexec : exec .profileSetChannel s
        = .next ((setSlot k (.draft rev { p with chans := p.chans.set ch d }) s).answeredWith r rest .ok 0 (bytesOf 2 rev)) :=
      exec_answers (t := setSlot k (.draft rev { p with chans := p.chans.set ch d }) s) (fun _ => rfl) hr hcode
        (setChannel_writes hslot hchannel hs hfields hstart hw) rfl
    obtain ⟨t, ht, hwritten, hothers, hframe⟩ := setSlot_answered hexec
    exact ⟨t, p.chans.set ch d, ht, hwritten, Twelve.get_set_same _ _ _, fun i hi => Twelve.get_set_ne _ _ hi, hothers, hframe⟩
  · exact exec_only_answers (fun _ => rfl) hr hcode (setChannel_refuses hslot hchannel hs hfields hstart hw)

end Sys2Proof.Machine
end

section
/-! PROOF. The requests that act on a run (R50 to R52, R83, R89): ARM, DISARM and ABORT, in each engine state. What each does
and the taking of its request do not disturb one another. -/

namespace Sys2Proof.Machine

/-! ### ARM (R83) -/

theorem nextRun_eq (e : Engine) : wrapToOne e.runNumber = nextRun e := by simp [wrapToOne, nextRun]

@[simp] theorem enterArmed_runNumber (s : State) : (enterArmed s).engine.runNumber = s.engine.runNumber := by
  unfold enterArmed
  simp only
  split <;> simp [takeStart, openCycle, armEngine]

theorem armRun_runNumber (s : State) : (armRun s).engine.runNumber = nextRun s.engine :=
  (enterArmed_runNumber _).trans (nextRun_eq s.engine)

theorem armRun_popIntake (s : State) : armRun (popIntake s) = popIntake (armRun s) :=
  enterArmed_popIntake { beginRun s with inputs := { s.inputs with rejectedStarts := 0 } }

theorem armRun_intake (s : State) : (armRun s).link.intake = s.link.intake :=
  congrArg HostLink.intake (enterArmed_link _)

/-- A run armed is ARMED entered by the run that begins. -/
theorem armRun_entersArmed {a : ActiveProfile} {s : State} (h : s.engine.active = some a) : entersArmed a
    { s with
      inputs := { s.inputs with rejectedStarts := 0 }
      engine := { s.engine with
        runNumber := nextRun s.engine, cyclesDone := 0, stopRequest := false, endReason := none } } (armRun s) := by
  rw [← nextRun_eq]
  exact enterArmed_entersArmed h

section
variable {r : Request} {s : State}

theorem carryArm_state (h : s.engine.state ≠ .idle) : carryArm r s = (s, .refuse .state) := if_neg h

theorem carryArm_noProfile (h : s.engine.state = .idle) (hs : s.store.selected = none) (ha : s.engine.active = none) :
    carryArm r s = (s, .refuse .noProfile) := by
  simp [carryArm, h, State.pendingProfile, hs, ha]

theorem carryArm_arms {a : ActiveProfile} (h : s.engine.state = .idle) (hs : s.store.selected = none)
    (ha : s.engine.active = some a) : carryArm r s = (armRun s, .okWith (bytesOf 2 (nextRun s.engine))) := by
  simp [carryArm, h, State.pendingProfile, hs, ha, armRun_runNumber]

/-- A pending selection taken by ARM, its PROFILE_TAKEN carrying the number of the run to begin. -/
def loadedBy (k : Fin 4) (rev : BitVec 16) (p : Profile) (s : State) : State :=
  (loadProfile k rev p s).post (.profileTaken k rev (wrapToOne s.engine.runNumber))

theorem carryArm_loads {k : Fin 4} {rev : BitVec 16} {p : Profile} (h : s.engine.state = .idle)
    (hs : s.store.selected = some k) (hk : s.store.slots.get k = .ready rev p) :
    carryArm r s = (armRun (loadedBy k rev p s), .okWith (bytesOf 2 (nextRun s.engine))) := by
  have hnumber : (armRun (loadedBy k rev p s)).engine.runNumber = nextRun s.engine := armRun_runNumber _
  rw [← hnumber]
  simp [carryArm, h, State.pendingProfile, hs, hk, loadedBy]

theorem loadedBy_popIntake (k : Fin 4) (rev : BitVec 16) (p : Profile) :
    loadedBy k rev p (popIntake s) = popIntake (loadedBy k rev p s) := post_popIntake _ (loadProfile k rev p s)

end

/-- Settles O45: a run begun in IDLE, by the active profile or by the pending selection. -/
theorem armBeginsRun : Obligations.ArmBeginsRun := by
  intro s r rest hr hcode
  refine ⟨fun hstate => ?_, fun hidle ha hs => ?_, fun a hidle ha hs => ?_, fun k rev p hidle hs hk => ?_⟩
  · exact exec_only_answers (fun _ => rfl) hr hcode (carryArm_state (s := popIntake s) hstate)
  · exact exec_only_answers (fun _ => rfl) hr hcode (carryArm_noProfile (s := popIntake s) hidle hs ha)
  · refine ⟨armRun s, ?_, armRun_entersArmed ha⟩
    exact exec_answers (a := .okWith _) (fun _ => rfl) hr hcode
      ((carryArm_arms (s := popIntake s) hidle hs ha).trans (congrArg (·, _) (armRun_popIntake s))) (armRun_intake s)
  · refine ⟨armRun (loadedBy k rev p s), { recondition p s.inputs with rejectedStarts := 0 }, ?_,
      recondition_linesUnder p s.inputs, rfl, ?_⟩
    · have hloads := carryArm_loads (r := r) (s := popIntake s) hidle hs hk
      rw [loadedBy_popIntake, armRun_popIntake] at hloads
      exact exec_answers (a := .okWith _) (fun _ => rfl) hr hcode hloads
        ((armRun_intake _).trans (postEvent_keeps_intake _ _ s.link))
    · rw [← nextRun_eq]
      exact armRun_entersArmed (s := loadedBy k rev p s) rfl

/-! ### DISARM and ABORT (R50 to R52, R89) -/

/-- The end of a run as the claims state it. -/
theorem endRun_eq (reason : RunEndReason) (s : State) : endRun reason s = { s with
    engine := s.engine.ended reason
    units := allOff
    link := postEvent s.now (.runEnd s.engine.runNumber reason s.engine.cyclesDone) s.link } := by
  rw [← all_offUnit]
  rfl

theorem endRun_intake (reason : RunEndReason) (s : State) : (endRun reason s).link.intake = s.link.intake := by
  rw [endRun_eq]
  exact postEvent_keeps_intake _ _ s.link

section
variable {s : State}

theorem disarm_idle (h : s.engine.state = .idle) : disarm s = s := by
  simp only [disarm, h]

theorem disarm_between (h : s.engine.state = .armed ∨ s.engine.state = .holdoff) : disarm s = endRun .disarmed s := by
  obtain h | h := h <;> simp only [disarm, h]

theorem disarm_owing (h : s.engine.state = .measuring ∨ s.engine.state = .stalled) : disarm s = requestStop s := by
  obtain h | h := h <;> simp only [disarm, h]

theorem abortRun_idle (h : s.engine.state = .idle) : abortRun s = s := by
  simp only [abortRun, h]

theorem abortRun_between (h : s.engine.state = .armed ∨ s.engine.state = .holdoff) : abortRun s = endRun .aborted s := by
  obtain h | h := h <;> simp only [abortRun, h]

theorem abortRun_measuring (h : s.engine.state = .measuring) :
    abortRun s = closeCycle (.cut .host) none (requestStop s) := by
  simp only [abortRun, h]

theorem abortRun_stalled {held : ClosedRecord} (h : s.engine.state = .stalled) (hb : s.engine.closeBuffer = some held) :
    abortRun s = giveUpHeld held s := by
  simp only [abortRun, h, hb]

end

theorem giveUpHeld_popIntake (held : ClosedRecord) (s : State) :
    giveUpHeld held (popIntake s) = popIntake (giveUpHeld held s) := by
  unfold giveUpHeld
  rw [← endRun_popIntake, ← post_popIntake, ← post_popIntake]
  rfl

theorem giveUpHeld_eq (held : ClosedRecord) (s : State) : giveUpHeld held s = { s with
    engine := { s.engine.ended .aborted with closeBuffer := none, cyclesDone := satInc s.engine.cyclesDone }
    units := allOff
    queue := s.queue.minus
    link := postEvent s.now (.runEnd s.engine.runNumber .aborted (satInc s.engine.cyclesDone))
      (postEvent s.now (.stall true held.record.number)
        (postEvent s.now (.loss held.record.number .abort held.record.missedBefore) s.link)) } := by
  rw [giveUpHeld, endRun_eq, countLoss_eq_minus]
  rfl

/-- Settles O46: DISARM in each engine state. -/
theorem disarmEndsOrRequestsStop : Obligations.DisarmEndsOrRequestsStop := by
  intro s r rest hr hcode
  refine ⟨fun h => ?_, fun h => ?_, fun h => ?_⟩
  · exact exec_only_answers (a := .okWith []) (fun _ => rfl) hr hcode
      (congrArg (·, _) (disarm_idle (s := popIntake s) h))
  · rw [← endRun_eq]
    exact exec_answers (a := .okWith []) (fun _ => rfl) hr hcode
      (congrArg (·, _) ((disarm_between (s := popIntake s) h).trans (endRun_popIntake _ _))) (endRun_intake _ s)
  · exact exec_answers (t := requestStop s) (a := .okWith []) (fun _ => rfl) hr hcode
      (congrArg (·, _) (disarm_owing (s := popIntake s) h)) rfl

/-- Settles O47: ABORT where no cycle is open. -/
theorem abortEndsTheRun : Obligations.AbortEndsTheRun := by
  intro s r rest hr hcode
  refine ⟨fun h => ?_, fun h => ?_, fun held h hb => ?_⟩
  · exact exec_only_answers (a := .okWith []) (fun _ => rfl) hr hcode
      (congrArg (·, _) (abortRun_idle (s := popIntake s) h))
  · rw [← endRun_eq]
    exact exec_answers (a := .okWith []) (fun _ => rfl) hr hcode
      (congrArg (·, _) ((abortRun_between (s := popIntake s) h).trans (endRun_popIntake _ _))) (endRun_intake _ s)
  · rw [← giveUpHeld_eq]
    refine exec_answers (a := .okWith []) (fun _ => rfl) hr hcode
      (congrArg (·, _) ((abortRun_stalled (s := popIntake s) h hb).trans (giveUpHeld_popIntake _ _))) ?_
    simp [giveUpHeld_eq]

/-- Settles O48: ABORT closes the cycle under a stop request, whatever the admission answers. -/
theorem abortClosesTheCycle : Obligations.AbortClosesTheCycle := by
  intro s r rest a oc after hr hcode hmeasuring hoc hactive hafter
  have hanswers := requestAdmission_answers (s := closedState oc after (requestStop s)) hactive
    ⟨closedRecord (.aborted .host) oc s.engine.overlaps s.engine.missed s.time.elapsed after, closedCost oc after, s.now⟩ none
  refine ⟨closeCycle (.cut .host) none (requestStop s), ?_, ?_⟩
  · exact exec_answers (a := .okWith []) (fun _ => rfl) hr hcode
      (congrArg (·, _) ((abortRun_measuring (s := popIntake s) hmeasuring).trans (closeCycle_popIntake _ _ (requestStop s))))
      (closeCycle_intake _ _ _)
  · rw [closeCycle_cut (s := requestStop s) hoc hafter]
    exact hanswers

end Sys2Proof.Machine
end

section
/-! PROOF. The transmit arbiter (R123, R142, R163, R164): the oldest reply, then the report due that was first sent earliest,
then a new report by its stamp. -/

namespace Sys2Proof.Machine

/-! ### A choice made (R142) -/

theorem arbiterChoice_of_idle {s : State} (hlive : s.live = true) (ht : s.link.transmitter = .idle) :
    arbiterChoice s = match nextReply s with | some t => some t | none => nextReport s :=
  if_pos (by simp [hlive, ht])

theorem live_idle_of_arbiterChoice {s : State} (h : (arbiterChoice s).isSome = true) :
    s.live = true ∧ s.link.transmitter = .idle := by
  unfold arbiterChoice at h
  split at h
  next hc => simpa using hc
  · simp at h

/-- With the arbiter's choice alone to take, a step makes it. -/
theorem step_of_choose {s t : State} (hp : s.pending = []) (hi : internals s = [.choose])
    (ht : (match nextReply { s with choices := s.choices + 1 } with
      | some t => some t
      | none => nextReport { s with choices := s.choices + 1 }) = some t) : step s = .next t := by
  have hdone : doneNow s .choose := (mem_internals.mp (hi ▸ List.mem_singleton_self _)).2
  obtain ⟨hlive, hidle⟩ := live_idle_of_arbiterChoice hdone
  have hchoice : arbiterChoice { s with choices := s.choices + 1 } = some t :=
    (arbiterChoice_of_idle (s := { s with choices := s.choices + 1 }) hlive hidle).trans ht
  have hstep : step s = idle s := by
    unfold step
    rw [hp]
  rw [hstep, idle, hi]
  exact congrArg (fun c : Option State => Host.Outcome.next (c.getD { s with choices := s.choices + 1 })) hchoice

theorem nextReply_eq_none {s : State} (h : s.link.replies = []) : nextReply s = none := by
  simp only [nextReply, h]

/-- With no reply waiting, a step that chooses makes the choice of reports. -/
theorem step_of_chooseReport {s t : State} (hp : s.pending = []) (hi : internals s = [.choose]) (hr : s.link.replies = [])
    (ht : nextReport { s with choices := s.choices + 1 } = some t) : step s = .next t :=
  step_of_choose hp hi (by rw [nextReply_eq_none (s := { s with choices := s.choices + 1 }) hr, ht])

section
variable {s : State} {p : SessionParams} (hs : s.link.session = .opened p) (hn : s.link.resetTaken = none)
include hs hn

theorem nextReport_retransmits {t : State} (ht : nextRetransmission s = some t) : nextReport s = some t := by
  simp only [nextReport, hs, hn, ht]
  rfl

theorem nextReport_new (ht : nextRetransmission s = none) : nextReport s = nextNewReport p s := by
  simp only [nextReport, hs, hn, ht]
  rfl
end

/-! ### A report due (R142, R166, R168) -/

theorem isDue_iff (h : HeldReport) : h.isDue = true ↔ h.due ≠ .no := by
  simp [HeldReport.isDue]

theorem nextRetransmission_eq_none {s : State} (h : ∀ w ∈ s.link.window, w.due = .no) : nextRetransmission s = none := by
  have hnone : s.link.window.find? HeldReport.isDue = none :=
    List.find?_eq_none.mpr fun w hw => by simp [isDue_iff, h w hw]
  rw [nextRetransmission, hnone, Option.map_none]

theorem nextRetransmission_eq_some {s : State} {h : HeldReport} {before later : List HeldReport}
    (hw : s.link.window = before ++ h :: later) (hb : ∀ w ∈ before, w.due = .no) (hd : h.due ≠ .no) :
    nextRetransmission s = some { s with link := resend h s.link } := by
  have hnone : before.find? HeldReport.isDue = none := List.find?_eq_none.mpr fun w hw => by simp [isDue_iff, hb w hw]
  rw [nextRetransmission, hw, List.find?_append, hnone, Option.none_or, List.find?_cons_of_pos ((isDue_iff h).mpr hd)]
  rfl

/-- A report sent again is counted unless a resumption made it due, and only chosen when its timer has just made it due. -/
theorem resend_eq {h : HeldReport} (l : HostLink) (hd : h.due ≠ .no) : resend h l = { l with
    window := l.window.map fun w => if w.slot = h.slot then { w with due := .no } else w
    stats := { l.stats with
      retransmissions := if h.due = .byResume then l.stats.retransmissions else satInc l.stats.retransmissions }
    transmitter := if h.due = .justTimed then .chosen h.frame h.slot l.stats.retransmissions
      else begun l h.frame (.report h.slot) } := by
  unfold resend
  cases hdue : h.due with
  | no => exact absurd hdue hd
  | justTimed => rfl
  | byTimer => rfl
  | byResume => rfl

/-- Settles O30: the oldest reply, or the first report due. -/
theorem repliesGoBeforeReports : Obligations.RepliesGoBeforeReports := by
  refine fun s hp hi => ⟨fun q rest hq => step_of_choose hp hi ?_, fun p h before later hr hs hn hw hb hd =>
    step_of_chooseReport hp hi hr ?_⟩
  · simp only [nextReply, hq]
    rfl
  · rw [nextReport_retransmits (s := { s with choices := s.choices + 1 }) hs hn (nextRetransmission_eq_some hw hb hd),
      resend_eq s.link hd]

/-! ### A new report (R163, R164) -/

/-- With a slot not held, the slot taken is one of those. -/
theorem freeSlot_is_free {w : List HeldReport} (h : w.length < 4) : ∀ x ∈ w, x.slot ≠ freeSlot w := by
  have hfree : ∃ k : Fin 4, ∀ x ∈ w, x.slot ≠ k := by
    by_contra hall
    push Not at hall
    have hcover : (Finset.univ : Finset (Fin 4)) ⊆ (w.map HeldReport.slot).toFinset := fun k _ => by
      obtain ⟨x, hx, hk⟩ := hall k
      exact List.mem_toFinset.mpr (List.mem_map.mpr ⟨x, hx, hk⟩)
    have hcard := (Finset.card_le_card hcover).trans (List.toFinset_card_le _)
    rw [Finset.card_univ, Fintype.card_fin, List.length_map] at hcard
    omega
  obtain ⟨k, hk⟩ := hfree
  have hsome : (([0, 1, 2, 3] : List (Fin 4)).find? fun k => !w.any fun h => decide (h.slot = k)).isSome := by
    refine List.find?_isSome.mpr ⟨k, ?_, by simpa using hk⟩
    fin_cases k <;> simp
  obtain ⟨j, hj⟩ := Option.isSome_iff_exists.mp hsome
  have hslot : freeSlot w = j := by rw [freeSlot, hj, Option.getD_some]
  rw [hslot]
  simpa using List.find?_some hj

theorem beginReport_eq (code : Byte) (payload : List Byte) (l : HostLink) :
    beginReport code payload l = reportBegun l (freeSlot l.window) code payload := rfl

/-! ### The record candidate (R123, R164) -/

theorem recordCandidate_eq_none {p : SessionParams} {s : State}
    (h : p.mode = .pull ∨ ∀ q ∈ s.queue.entries, q.delivered = true) : recordCandidate p s = none := by
  unfold recordCandidate
  split
  · rfl
  next hm =>
    have hall : ∀ q ∈ s.queue.entries, q.delivered = true := h.resolve_left (by simp [hm])
    have hnone : s.queue.oldestUndelivered = none := List.findIdx?_eq_none_iff.mpr fun q hq => by simp [hall q hq]
    rw [hnone]

section
variable {p : SessionParams} {s : State} {before after : List QueueEntry} {q : QueueEntry}
  (hq : s.queue.entries = before ++ q :: after)
include hq

theorem queue_at_length : s.queue.at before.length = some q := by
  simp [ResultQueue.at, hq]

theorem recordCandidate_eq_some (hm : p.mode = .push) (hb : ∀ w ∈ before, w.delivered = true) (hd : q.delivered = false) :
    recordCandidate p s = some (before.length, q.created) := by
  have hoffset : s.queue.oldestUndelivered = some before.length := by
    have hnone : before.findIdx? (fun e => !e.delivered) = none :=
      List.findIdx?_eq_none_iff.mpr fun w hw => by simp [hb w hw]
    rw [ResultQueue.oldestUndelivered, hq, List.findIdx?_append, hnone]
    simp [List.findIdx?_cons, hd]
  simp only [recordCandidate, hm, hoffset, queue_at_length hq, Option.map_some]

theorem takeRecordReport_eq : takeRecordReport before.length s = some { s with
    queue := { s.queue with entries := before ++ { q with delivered := true } :: after }
    link := reportBegun s.link (freeSlot s.link.window) 0x40 (recordBytes q.record) } := by
  rw [takeRecordReport, queue_at_length hq, markDelivered_append hq]
  rfl
end

theorem takeEventReport_eq {s : State} {e : EventReport} {rest : List EventReport} (h : s.link.events = e :: rest) :
    takeEventReport s = some { s with
      link := reportBegun { s.link with events := rest } (freeSlot s.link.window) e.event.code e.payload } := by
  simp only [takeEventReport, h]
  rfl

section
variable {p : SessionParams} {s : State}

theorem nextNewReport_full (h : 4 ≤ s.link.window.length) : nextNewReport p s = none := if_neg (Nat.not_lt.mpr h)

theorem nextNewReport_none (he : s.link.events = []) (hc : recordCandidate p s = none) : nextNewReport p s = none := by
  simp [nextNewReport, he, hc]

theorem nextNewReport_event (hl : s.link.window.length < Config.windowCapacity) {e : EventReport} {rest : List EventReport}
    (he : s.link.events = e :: rest) (hc : recordCandidate p s = none) : nextNewReport p s = takeEventReport s := by
  rw [nextNewReport, if_pos hl, hc, he]
  rfl

theorem nextNewReport_record (hl : s.link.window.length < Config.windowCapacity) {n : Nat} {created : Epoch}
    (hc : recordCandidate p s = some (n, created)) (he : ∀ e ∈ s.link.events.head?, stampEarlier e.created created = false) :
    nextNewReport p s = takeRecordReport n s := by
  rw [nextNewReport, if_pos hl, hc]
  cases hhead : s.link.events.head? with
  | none => rfl
  | some e => exact if_neg (by simp [he e hhead])

theorem nextNewReport_earlier (hl : s.link.window.length < Config.windowCapacity) {n : Nat} {created : Epoch} {e : EventReport}
    {rest : List EventReport} (he : s.link.events = e :: rest) (hc : recordCandidate p s = some (n, created))
    (hstamp : stampEarlier e.created created = true) : nextNewReport p s = takeEventReport s := by
  rw [nextNewReport, if_pos hl, hc, he]
  exact if_pos hstamp
end

theorem stampEarlier_eq_true {a b : Epoch} (hlow : 1 ≤ (b - a).toNat) (hhigh : (b - a).toNat < 2 ^ 47) :
    stampEarlier a b = true := by
  simp only [stampEarlier, Bool.and_eq_true, decide_eq_true_eq]
  exact ⟨hlow, hhigh⟩

theorem stampEarlier_eq_false {a b : Epoch} (h : (b - a).toNat = 0 ∨ 2 ^ 47 ≤ (b - a).toNat) : stampEarlier a b = false := by
  change epochDistance a b = 0 ∨ 2 ^ 47 ≤ epochDistance a b at h
  simp only [stampEarlier, Bool.and_eq_false_iff, decide_eq_false_iff_not]
  omega

/-! ### No report chosen (R142, R143, R163) -/

theorem nextReport_eq_none {s : State}
    (h : s.link.session = .closed ∨ (∃ p, s.link.session = .suspended p) ∨ s.link.resetTaken ≠ none) :
    nextReport s = none := by
  unfold nextReport
  split
  next p hs =>
    have hreset : s.link.resetTaken ≠ none := by simpa [hs] using h
    exact if_pos (Option.isSome_iff_ne_none.mpr hreset)
  · rfl
  · rfl

theorem nextReport_eq_none_of_new {s : State} (hd : ∀ w ∈ s.link.window, w.due = .no)
    (h : ∀ p, s.link.session = .opened p → nextNewReport p s = none) : nextReport s = none := by
  unfold nextReport
  split
  next p hs =>
    rw [nextRetransmission_eq_none hd, h p hs]
    split <;> rfl
  · rfl
  · rfl

theorem arbiterChoice_eq_none {s : State} (hr : s.link.replies = []) (h : nextReport s = none) : arbiterChoice s = none := by
  rw [arbiterChoice, nextReply_eq_none hr, h]
  split <;> rfl

/-- Settles O31: with no report due, the candidates decide. -/
theorem newReportsGoByStamp : Obligations.NewReportsGoByStamp := by
  refine ⟨fun s p hp hi hr hs hn hd hl _ => ?_, fun s hr => ⟨fun h => ?_, fun hd hl => ?_, fun hd he hc => ?_⟩⟩
  · have hfree := freeSlot_is_free hl
    have hstep : ∀ t, nextNewReport p { s with choices := s.choices + 1 } = some t → step s = .next t := fun t ht =>
      step_of_chooseReport hp hi hr
        ((nextReport_new (s := { s with choices := s.choices + 1 }) hs hn (nextRetransmission_eq_none hd)).trans ht)
    refine ⟨fun e rest he hc => ?_, fun before q after hm hq hb hdel hstamp => ?_,
      fun before q after e rest hm hq hb hdel he hlow hhigh => ?_⟩
    · refine ⟨freeSlot s.link.window, hfree, hstep _ ?_⟩
      exact (nextNewReport_event (s := { s with choices := s.choices + 1 }) hl he (recordCandidate_eq_none hc)).trans
        (takeEventReport_eq (s := { s with choices := s.choices + 1 }) he)
    · refine ⟨freeSlot s.link.window, hfree, hstep _ ?_⟩
      exact (nextNewReport_record (s := { s with choices := s.choices + 1 }) hl (recordCandidate_eq_some hq hm hb hdel)
        fun e he => stampEarlier_eq_false (hstamp e he)).trans
        (takeRecordReport_eq (s := { s with choices := s.choices + 1 }) hq)
    · refine ⟨freeSlot s.link.window, hfree, hstep _ ?_⟩
      exact (nextNewReport_earlier (s := { s with choices := s.choices + 1 }) hl he (recordCandidate_eq_some hq hm hb hdel)
        (stampEarlier_eq_true hlow hhigh)).trans (takeEventReport_eq (s := { s with choices := s.choices + 1 }) he)
  · exact arbiterChoice_eq_none hr (nextReport_eq_none h)
  · exact arbiterChoice_eq_none hr (nextReport_eq_none_of_new hd fun p _ => nextNewReport_full hl)
  · refine arbiterChoice_eq_none hr (nextReport_eq_none_of_new hd fun p hs => nextNewReport_none he ?_)
    exact recordCandidate_eq_none (hc.imp_left fun hpull => hpull p hs)

end Sys2Proof.Machine
end

section
/-! PROOF. The bytes of a frame, one by one (R134 to R138): the framer's way from HUNT through the header and the payload to
the test of the check, where what it has gathered no longer matters. -/

namespace Sys2Proof.Machine

/-! ### Bytes in a row -/

/-- The Host Link after some bytes. -/
def takeBytes (bytes : List Byte) (l : HostLink) : HostLink := bytes.foldl (fun l b => takeByte b l) l

theorem takeBytes_append (a b : List Byte) (l : HostLink) : takeBytes (a ++ b) l = takeBytes b (takeBytes a l) :=
  List.foldl_append

@[simp] theorem resumeSession_receiver (l : HostLink) : (resumeSession l).receiver = l.receiver := by
  unfold resumeSession
  split <;> rfl

@[simp] theorem offerRequest_receiver (r : Request) (l : HostLink) : (offerRequest r l).receiver = l.receiver := by
  unfold offerRequest
  repeat' split
  all_goals rfl

@[simp] theorem confirmReport_receiver (seq : Byte) (l : HostLink) : (confirmReport seq l).receiver = l.receiver := by
  unfold confirmReport recallChosen
  repeat' split
  all_goals rfl

@[simp] theorem testFrame_receiver (l : HostLink) : (testFrame l).receiver = l.receiver := by
  have hrequest : ∀ r, (arriveRequest r l).receiver = l.receiver := fun r =>
    (offerRequest_receiver r _).trans (resumeSession_receiver _)
  have hack : ∀ seq, (arriveAck seq l).receiver = l.receiver := fun seq => confirmReport_receiver seq _
  unfold testFrame
  repeat' split
  · exact hrequest _
  · exact hack _
  · rfl
  · rfl
  · rfl
  · rfl
  · rfl
  · rfl

/-- No byte changes the character receiver. -/
theorem takeByte_receiver (b : Byte) (l : HostLink) : (takeByte b l).receiver = l.receiver := by
  have hheader : ∀ got crc, (takeHeaderByte got crc b l).receiver = l.receiver := fun got crc => by
    unfold takeHeaderByte
    simp only
    repeat' split
    all_goals rfl
  have hbody : ∀ h payload low crc, (takeBodyByte h payload low crc b l).receiver = l.receiver :=
    fun h payload low crc => by
      unfold takeBodyByte
      repeat' split
      · rfl
      · rfl
      · exact testFrame_receiver _
  unfold takeByte
  repeat' split
  · rfl
  · rfl
  · exact hheader _ _
  · exact hbody _ _ _ _
  · rfl

theorem completed_completed (r : Receiver) : r.completed.completed = r.completed := by
  cases r <;> rfl

theorem with_completed_eq {l : HostLink} (h : l.receiver.completed = l.receiver) :
    { l with receiver := l.receiver.completed } = l := by
  rw [h]

theorem canReceive_received {s : State} {l : HostLink} (h : s.canReceive = true)
    (hl : l.receiver = s.link.receiver.completed) : (received s l).canReceive = true := by
  simp only [State.canReceive, Bool.and_eq_true] at h ⊢
  refine ⟨h.1, ?_⟩
  change l.receiver.mayComplete = true
  rw [hl]
  cases hr : s.link.receiver with
  | waiting high => rfl
  | restarted => rfl
  | character age bits => rfl
  | held age => rfl

theorem runAll_cons {c : Instr} {cs : List Instr} {s t : State} (h : exec c s = .next t) :
    runAll (c :: cs) s = runAll cs t := by
  simp only [runAll, h]

theorem exec_byteReceived {s : State} (b : Byte) (h : s.canReceive = true) : exec (.byteReceived b) s
    = .next (received s (takeByte b { s.link with receiver := s.link.receiver.completed })) :=
  congrArg Host.Outcome.next (onCharacter_of_canReceive (takeByte b) h)

/-- Bytes received one by one leave what the framer makes of them. -/
theorem runAll_byteReceived {s : State} (h : s.canReceive = true) (b : Byte) (bytes : List Byte) :
    runAll ((b :: bytes).map .byteReceived) s
      = .next (received s (takeBytes (b :: bytes) { s.link with receiver := s.link.receiver.completed })) := by
  induction bytes generalizing s b with
  | nil => exact runAll_cons (exec_byteReceived b h)
  | cons c cs ih =>
    have hreceiver := takeByte_receiver b { s.link with receiver := s.link.receiver.completed }
    rw [List.map_cons, runAll_cons (exec_byteReceived b h), ih (canReceive_received h hreceiver) c]
    exact congrArg (fun l => Host.Outcome.next (received s (takeBytes (c :: cs) l)))
      (with_completed_eq ((congrArg Receiver.completed hreceiver).trans ((completed_completed _).trans hreceiver.symm)))

/-! ### The header (R137) -/

theorem ofByte_code (cls : FrameClass) : FrameClass.ofByte cls.code = some cls := by
  cases cls <;> rfl

theorem ofLittleEndian_pair (low high : Byte) : ofLittleEndian [low, high] = low.toNat + 256 * high.toNat := by
  simp [ofLittleEndian]

section
variable {l : HostLink} (h : l.framer = .hunt)
include h

theorem takeByte_delimiter : takeByte 0xC5 l = frameGoesOn (.header [] crcStart) l := by
  simp only [takeByte, h]
  rfl

theorem takeBytes_class (cls : FrameClass) : takeBytes [0xC5, cls.code] l
    = frameGoesOn (.header [cls.code] (crcOver crcStart [cls.code])) l := by
  rw [takeBytes, List.foldl_cons, takeByte_delimiter h]
  exact if_pos (by rw [ofByte_code]; rfl)

theorem takeBytes_badClass {b : Byte} (hb : FrameClass.ofByte b = none) : takeBytes [0xC5, b] l = frameError l := by
  rw [takeBytes, List.foldl_cons, takeByte_delimiter h]
  exact if_neg (by simp [hb])

theorem takeBytes_lengthLow (cls : FrameClass) (seq low : Byte) : takeBytes [0xC5, cls.code, seq, low] l
    = frameGoesOn (.header [cls.code, seq, low] (crcOver crcStart [cls.code, seq, low])) l := by
  change takeBytes [seq, low] (takeBytes [0xC5, cls.code] l) = _
  rw [takeBytes_class h]
  rfl

theorem takeBytes_badLength {cls : FrameClass} (seq low high : Byte)
    (hbad : 1024 < low.toNat + 256 * high.toNat ∨ (cls = .linkAck ∧ ¬ low.toNat + 256 * high.toNat = 0)) :
    takeBytes [0xC5, cls.code, seq, low, high] l = frameError l := by
  change takeByte high (takeBytes [0xC5, cls.code, seq, low] l) = _
  rw [takeBytes_lengthLow h]
  refine if_pos ?_
  simp only [ofByte_code, ofLittleEndian_pair, Option.some.injEq, Bool.or_eq_true, Bool.and_eq_true, Bool.not_eq_true',
    decide_eq_true_eq, decide_eq_false_iff_not]
  exact hbad

theorem takeBytes_length {cls : FrameClass} (seq low high : Byte) (hlen : low.toNat + 256 * high.toNat ≤ 1024)
    (hack : cls = .linkAck → low.toNat + 256 * high.toNat = 0) : takeBytes [0xC5, cls.code, seq, low, high] l
      = frameGoesOn (.header [cls.code, seq, low, high] (crcOver crcStart [cls.code, seq, low, high])) l := by
  change takeByte high (takeBytes [0xC5, cls.code, seq, low] l) = _
  rw [takeBytes_lengthLow h]
  refine if_neg ?_
  simp only [ofByte_code, ofLittleEndian_pair, Config.maxPayload]
  simpa [hlen] using hack

theorem takeBytes_badCode (seq code : Byte) (hcode : code ≠ 0) :
    takeBytes [0xC5, 0x04, seq, 0x00, 0x00, code] l = frameError l := by
  change takeByte code (takeBytes [0xC5, FrameClass.linkAck.code, seq, 0x00, 0x00] l) = _
  rw [takeBytes_length h seq 0x00 0x00 (by decide) fun _ => rfl]
  exact if_pos (by simpa using hcode)

/-- A header in form leads to the payload. -/
theorem takeBytes_header {cls : FrameClass} (seq low high code : Byte) (hlen : low.toNat + 256 * high.toNat ≤ 1024)
    (hack : cls = .linkAck → low.toNat + 256 * high.toNat = 0 ∧ code = 0) :
    takeBytes [0xC5, cls.code, seq, low, high, code] l
      = frameGoesOn (.body ⟨cls, seq, BitVec.ofNat 16 (low.toNat + 256 * high.toNat), code⟩ [] none
          (crcOver crcStart [cls.code, seq, low, high, code])) l := by
  change takeByte code (takeBytes [0xC5, cls.code, seq, low, high] l) = _
  rw [takeBytes_length h seq low high hlen fun hc => (hack hc).1]
  change takeHeaderByte [cls.code, seq, low, high] _ code _ = _
  simp only [takeHeaderByte, ofByte_code, ofLittleEndian_pair]
  refine if_neg ?_
  simpa using fun hc => (hack hc).2

end

/-! ### The payload and the check (R138) -/

/-- Payload bytes are gathered up to the length of the header. -/
theorem takeBytes_payload (l : HostLink) (h : Header) (got bytes : List Byte) (crc : BitVec 16)
    (hlen : got.length + bytes.length ≤ h.length.toNat) :
    takeBytes bytes (frameGoesOn (.body h got none crc) l) = frameGoesOn (.body h (got ++ bytes) none (crcOver crc bytes)) l := by
  induction bytes generalizing got crc with
  | nil => rw [List.append_nil]; rfl
  | cons b bs ih =>
    rw [List.length_cons] at hlen
    have hbyte : takeByte b (frameGoesOn (.body h got none crc) l) = frameGoesOn (.body h (got ++ [b]) none (crcByte crc b)) l :=
      if_pos (by omega)
    change takeBytes bs (takeByte b _) = _
    rw [hbyte, ih (got ++ [b]) (crcByte crc b) (by simp; omega), List.append_assoc]
    rfl

/-- The two check bytes bring the frame to its test. -/
theorem takeBytes_check (l : HostLink) (h : Header) (payload : List Byte) (crc : BitVec 16) (low high : Byte)
    (hlen : payload.length = h.length.toNat) :
    takeBytes [low, high] (frameGoesOn (.body h payload none crc) l)
      = testFrame { l with framer := .check h payload crc (BitVec.ofNat 16 (low.toNat + 256 * high.toNat)), gapTimer := none } := by
  have hfull : ¬ payload.length < h.length.toNat := by omega
  have hlow : takeByte low (frameGoesOn (.body h payload none crc) l) = frameGoesOn (.body h payload (some low) crc) l :=
    if_neg hfull
  change takeByte high (takeByte low _) = _
  rw [hlow, ← ofLittleEndian_pair]
  exact if_neg hfull

/-! ### Whole frames -/

theorem pair_toNat {n : Nat} (h : n < 65536) : (BitVec.ofNat 8 n).toNat + 256 * (BitVec.ofNat 8 (n / 256)).toNat = n := by
  simp only [BitVec.toNat_ofNat]
  omega

theorem crcOver_append (crc : BitVec 16) (a b : List Byte) : crcOver crc (a ++ b) = crcOver (crcOver crc a) b :=
  List.foldl_append

/-- A frame whose header is in form, with any check: it comes to its test with what it carries. -/
theorem takeBytes_frame {l : HostLink} (hf : l.framer = .hunt) {cls : FrameClass} (seq code : Byte) {payload : List Byte}
    (hlen : payload.length ≤ 1024) (hack : cls = .linkAck → code = 0 ∧ payload = []) (low high : Byte) :
    takeBytes (0xC5 :: checkedBytes cls seq code payload ++ [low, high]) l
      = testFrame { l with
          framer := .check ⟨cls, seq, BitVec.ofNat 16 payload.length, code⟩ payload
            (crcOver crcStart (checkedBytes cls seq code payload)) (BitVec.ofNat 16 (low.toNat + 256 * high.toNat))
          gapTimer := none } := by
  have hpair := pair_toNat (n := payload.length) (by omega)
  have hheader := takeBytes_header hf (cls := cls) seq _ _ code (by rw [hpair]; exact hlen) fun hc => by
    obtain ⟨hcode, hpayload⟩ := hack hc
    exact ⟨by rw [hpair, hpayload]; rfl, hcode⟩
  rw [hpair] at hheader
  have hsize : payload.length = (BitVec.ofNat 16 payload.length).toNat := by
    rw [BitVec.toNat_ofNat]
    omega
  have hcovered : checkedBytes cls seq code payload
      = [cls.code, seq, BitVec.ofNat 8 payload.length, BitVec.ofNat 8 (payload.length / 256), code] ++ payload := rfl
  have hbytes : 0xC5 :: checkedBytes cls seq code payload ++ [low, high]
      = [0xC5, cls.code, seq, BitVec.ofNat 8 payload.length, BitVec.ofNat 8 (payload.length / 256), code]
        ++ (payload ++ [low, high]) := rfl
  rw [hcovered, crcOver_append, ← hcovered, hbytes, takeBytes_append, hheader, takeBytes_append,
    takeBytes_payload _ _ _ _ _ (by simp [← hsize]), List.nil_append]
  exact takeBytes_check _ _ _ _ _ _ hsize

/-- A frame with a wrong check is dropped as one (R138). -/
theorem testFrame_wrong (l : HostLink) (h : Header) (payload : List Byte) {crc got : BitVec 16} (hne : crc ≠ got) :
    testFrame { l with framer := .check h payload crc got, gapTimer := none } = checkError l := if_neg hne

/-- A frame with its own check is dealt with by its class (R138). -/
theorem testFrame_right (l : HostLink) (h : Header) (payload : List Byte) (crc : BitVec 16) :
    testFrame { l with framer := .check h payload crc crc, gapTimer := none } = match h.cls with
      | .request => arriveRequest ⟨h.seq, h.code, payload⟩ l
      | .linkAck => arriveAck h.seq l
      | .reply => misdirected l
      | .report => misdirected l := by
  refine (if_pos rfl).trans ?_
  cases h.cls <;> rfl

/-- A whole frame with its own check. -/
theorem takeBytes_frameBytes {l : HostLink} (hf : l.framer = .hunt) {cls : FrameClass} (seq code : Byte)
    {payload : List Byte} (hlen : payload.length ≤ 1024) (hack : cls = .linkAck → code = 0 ∧ payload = []) :
    takeBytes (frameBytes cls seq code payload) l = testFrame { l with
      framer := .check ⟨cls, seq, BitVec.ofNat 16 payload.length, code⟩ payload
        (crcOver crcStart (checkedBytes cls seq code payload)) (crcOver crcStart (checkedBytes cls seq code payload))
      gapTimer := none } := by
  refine (takeBytes_frame hf seq code hlen hack _ _).trans ?_
  rw [pair_toNat (BitVec.isLt _), BitVec.ofNat_toNat, BitVec.setWidth_eq]

section
variable {s : State} (hr : s.canReceive = true) (hf : s.link.framer = .hunt)
include hr hf

/-- Bytes that bring the framer where a command does. -/
theorem runAll_bytes_eq_exec {i : Instr} {f : HostLink → HostLink} {b : Byte} {bytes : List Byte}
    (hi : exec i s = .next (onCharacter f s))
    (ht : ∀ l : HostLink, l.framer = .hunt → takeBytes (b :: bytes) l = f l) :
    runAll ((b :: bytes).map .byteReceived) s = exec i s := by
  rw [hi, onCharacter_of_canReceive f hr, runAll_byteReceived hr,
    ht { s.link with receiver := s.link.receiver.completed } hf]

end

/-- Settles O23: the frame's bytes bring it to its test, where its class decides. -/
theorem goodFramesArriveByteByByte : Obligations.GoodFramesArriveByteByByte := by
  refine ⟨by decide +kernel, fun s seq code payload hr hf hlen => ⟨?_, ?_⟩⟩
  · refine runAll_bytes_eq_exec hr hf (f := arriveRequest ⟨seq, code, payload⟩) (if_pos hlen) fun l hl => ?_
    exact (takeBytes_frameBytes hl (cls := .request) seq code hlen (fun h => nomatch h)).trans (testFrame_right l _ _ _)
  · refine runAll_bytes_eq_exec hr hf (f := arriveAck seq) rfl fun l hl => ?_
    exact (takeBytes_frameBytes hl (cls := .linkAck) seq 0 (payload := []) (by decide) (fun _ => ⟨rfl, rfl⟩)).trans
      (testFrame_right l _ _ _)

theorem ofByte_eq_none {b : Byte} (h : b.toNat = 0 ∨ 4 < b.toNat) : FrameClass.ofByte b = none := by
  have hne : b ≠ 0x01 ∧ b ≠ 0x02 ∧ b ≠ 0x03 ∧ b ≠ 0x04 := by
    refine ⟨?_, ?_, ?_, ?_⟩ <;> rintro rfl <;> revert h <;> decide
  obtain ⟨h1, h2, h3, h4⟩ := hne
  rw [FrameClass.ofByte, if_neg h1, if_neg h2, if_neg h3, if_neg h4]

/-- Settles O24: the byte that shows a header out of form, and the check that is not the frame's. -/
theorem badFramesArriveByteByByte : Obligations.BadFramesArriveByteByByte := by
  intro s cls seq code low high payload hr hf hlen
  refine ⟨fun hc => ?_, fun hack hne => ?_, fun hc => ?_, fun hbad => ?_, fun hbad => ?_, fun hcode => ?_⟩
  · refine runAll_bytes_eq_exec hr hf (i := .misdirectedFrame) (f := misdirected) rfl fun l hl =>
      (takeBytes_frameBytes hl seq code hlen ?_).trans ((testFrame_right l _ _ _).trans ?_)
    · rintro rfl
      simp at hc
    · obtain rfl | rfl := hc <;> rfl
  · refine runAll_bytes_eq_exec hr hf (i := .crcError) (f := checkError) rfl fun l hl =>
      (takeBytes_frame hl seq code hlen hack low high).trans (testFrame_wrong l _ _ fun heq => hne ?_)
    have hlow := low.isLt
    have hhigh := high.isLt
    calc low.toNat + 256 * high.toNat
        = (BitVec.ofNat 16 (low.toNat + 256 * high.toNat)).toNat := by rw [BitVec.toNat_ofNat]; omega
      _ = (crcOver crcStart (checkedBytes cls seq code payload)).toNat := by rw [heq]
  · exact runAll_bytes_eq_exec hr hf (i := .framingError .badClass) (f := frameError) rfl fun l hl =>
      takeBytes_badClass hl (ofByte_eq_none hc)
  · exact runAll_bytes_eq_exec hr hf (i := .framingError .badLength) (f := frameError) rfl fun l hl =>
      takeBytes_badLength hl seq low high (.inl hbad)
  · exact runAll_bytes_eq_exec hr hf (i := .framingError .badLength) (f := frameError) rfl fun l hl =>
      takeBytes_badLength (cls := .linkAck) hl seq low high (.inr ⟨rfl, hbad⟩)
  · exact runAll_bytes_eq_exec hr hf (i := .framingError .badLinkAck) (f := frameError) rfl fun l hl =>
      takeBytes_badCode hl seq code hcode

end Sys2Proof.Machine
end

section
/-! PROOF. The two lines bit by bit (R13, R131 to R133): between the middles of the bits the character receiver only ages, so a
run of samples is a quiet stretch and then the sample at a middle. -/

namespace Sys2Proof.Machine

/-! ### Samples in a row -/

/-- The levels of the base periods from `a` on, `n` of them. -/
def levels (f : Nat → Bool) (a n : Nat) : List Bool := (List.range' a n).map f

theorem levels_append (f : Nat → Bool) (a m n : Nat) : levels f a (m + n) = levels f a m ++ levels f (a + m) n := by
  rw [levels, levels, levels, ← List.map_append, List.range'_append_1]

@[simp] theorem length_levels (f : Nat → Bool) (a n : Nat) : (levels f a n).length = n := by
  simp [levels]

theorem levels_one (f : Nat → Bool) (a : Nat) : levels f a 1 = [f a] := rfl

/-- Samples that find nothing, and those after them. -/
theorem samplesAll_then {divisor : Nat} {a b : List Bool} {r r' : Receiver} (h : samplesAll divisor a r = (r', [])) :
    samplesAll divisor (a ++ b) r = samplesAll divisor b r' := by
  induction a generalizing r with
  | nil =>
    obtain rfl : r = r' := congrArg Prod.fst h
    rfl
  | cons high rest ih =>
    have hfound := congrArg Prod.snd h
    obtain ⟨hnone, hrest⟩ := List.append_eq_nil_iff.mp hfound
    have hnext := ih (r := (sampleReceiver divisor high r).1) (Prod.ext (congrArg Prod.fst h :) hrest)
    simp only [List.cons_append, samplesAll, hnone, hnext, List.nil_append]

section
variable {divisor : Nat}

theorem samplesAll_high (n : Nat) :
    samplesAll divisor (List.replicate n true) (.waiting true) = (.waiting true, []) := by
  induction n with
  | zero => rfl
  | succ n ih => simp [List.replicate_succ, samplesAll, sampleReceiver, ih]

theorem samplesAll_unheard (n : Nat) :
    samplesAll divisor (List.replicate n false) (.waiting false) = (.waiting false, []) := by
  induction n with
  | zero => rfl
  | succ n ih => simp [List.replicate_succ, samplesAll, sampleReceiver, ih]

/-- Between the middles of the bits a character only ages. -/
theorem samplesAll_quiet {bits : List Bool} {ls : List Bool} {age : Nat}
    (h : ∀ j, age < j → j ≤ age + ls.length → j ≠ divisor / 2 ∧ j ≠ (bits.length + 1) * divisor + divisor / 2) :
    samplesAll divisor ls (.character age bits) = (.character (age + ls.length) bits, []) := by
  induction ls generalizing age with
  | nil => rfl
  | cons high rest ih =>
    have hlen : age + (high :: rest).length = age + 1 + rest.length := by
      rw [List.length_cons]
      omega
    obtain ⟨hstart, hbit⟩ := h (age + 1) (by omega) (by omega)
    rw [samplesAll, sampleReceiver, if_neg hstart, if_neg hbit, ih fun j hj hle => h j (by omega) (by omega), hlen]
    rfl

/-- A held character waits while the line stays low, up to two character times. -/
theorem samplesAll_held {n age : Nat} (h : age + n < 20 * divisor) :
    samplesAll divisor (List.replicate n false) (.held age) = (.held (age + n), []) := by
  induction n generalizing age with
  | zero => rfl
  | succ n ih =>
    have hshort : ¬ 2 * Config.characterBits * divisor ≤ age + 1 := by
      simp only [Config.characterBits]
      omega
    rw [List.replicate_succ, samplesAll, sampleReceiver, if_neg hshort, if_neg Bool.false_ne_true, ih (by omega)]
    simp only [List.nil_append, Prod.mk.injEq, Receiver.held.injEq, and_true]
    omega

/-! ### A character up to its stop bit (R132) -/

/-- The data bits taken from a line by its levels at their middles. -/
def middles (divisor : Nat) (f : Nat → Bool) (i : Nat) : List Bool :=
  (List.range i).map fun j => f ((j + 1) * divisor + divisor / 2)

@[simp] theorem length_middles (f : Nat → Bool) (i : Nat) : (middles divisor f i).length = i := by
  simp [middles]

theorem middles_succ (f : Nat → Bool) (i : Nat) :
    middles divisor f (i + 1) = middles divisor f i ++ [f ((i + 1) * divisor + divisor / 2)] := by
  simp [middles, List.range_succ]

variable (hd : 2 ≤ divisor) {f : Nat → Bool} (h0 : f 0 = false)
include hd h0

/-- A start bit up to the base period before its middle. -/
theorem samplesAll_beforeStart :
    samplesAll divisor (levels f 0 (divisor / 2)) (.waiting true) = (.character (divisor / 2 - 1) [], []) := by
  have hsplit : divisor / 2 = 1 + (divisor / 2 - 1) := by omega
  have hfirst : samplesAll divisor (levels f 0 1) (.waiting true) = (.character 0 [], []) := by
    simp [levels_one, samplesAll, sampleReceiver, h0]
  rw [hsplit, levels_append, samplesAll_then hfirst, samplesAll_quiet, length_levels]
  · simp
  · intro j _ hj
    simp only [length_levels, List.length_nil] at hj ⊢
    omega

variable (hm : f (divisor / 2) = false)
include hm

/-- Past the middle of its `i`th data bit a character holds the bits up to it. -/
theorem samplesAll_bits {i : Nat} (hi : i ≤ 8) :
    samplesAll divisor (levels f 0 (i * divisor + divisor / 2 + 1)) (.waiting true)
      = (.character (i * divisor + divisor / 2) (middles divisor f i), []) := by
  induction i with
  | zero =>
    have hage : divisor / 2 - 1 + 1 = divisor / 2 := by omega
    rw [Nat.zero_mul, Nat.zero_add, levels_append, samplesAll_then (samplesAll_beforeStart hd h0), Nat.zero_add, levels_one]
    simp [samplesAll, sampleReceiver, hage, hm, middles]
  | succ i ih =>
    have hmul : (i + 1) * divisor = i * divisor + divisor := Nat.succ_mul i divisor
    have hsplit : (i + 1) * divisor + divisor / 2 + 1 = i * divisor + divisor / 2 + 1 + (divisor - 1) + 1 := by omega
    have hlast : 0 + (i * divisor + divisor / 2 + 1 + (divisor - 1)) = (i + 1) * divisor + divisor / 2 := by omega
    have hage : i * divisor + divisor / 2 + (divisor - 1) + 1 = (i + 1) * divisor + divisor / 2 := by omega
    have hstart : (i + 1) * divisor + divisor / 2 ≠ divisor / 2 := by omega
    have hquiet : samplesAll divisor (levels f (0 + (i * divisor + divisor / 2 + 1)) (divisor - 1))
        (.character (i * divisor + divisor / 2) (middles divisor f i))
          = (.character (i * divisor + divisor / 2 + (divisor - 1)) (middles divisor f i), []) := by
      rw [samplesAll_quiet, length_levels]
      intro j hlow hhigh
      simp only [length_levels, length_middles] at hhigh ⊢
      omega
    rw [hsplit, levels_append, levels_append, List.append_assoc, samplesAll_then (ih (by omega)), samplesAll_then hquiet,
      hlast, levels_one, middles_succ]
    simp only [samplesAll, sampleReceiver, hage, if_neg hstart, length_middles, if_true, if_pos (show i < 8 by omega),
      List.append_nil]

/-- Before the middle of its stop bit a character holds its eight data bits. -/
theorem samplesAll_beforeStop :
    samplesAll divisor (levels f 0 (9 * divisor + divisor / 2)) (.waiting true)
      = (.character (9 * divisor + divisor / 2 - 1) (middles divisor f 8), []) := by
  have hsplit : 9 * divisor + divisor / 2 = 8 * divisor + divisor / 2 + 1 + (divisor - 1) := by omega
  have hage : 9 * divisor + divisor / 2 - 1 = 8 * divisor + divisor / 2 + (divisor - 1) := by omega
  rw [hage, hsplit, levels_append, samplesAll_then (samplesAll_bits hd h0 hm (Nat.le_refl 8)), samplesAll_quiet, length_levels]
  intro j hlow hhigh
  simp only [length_levels, length_middles] at hhigh ⊢
  omega

end

/-- The sample at the middle of the stop bit. -/
theorem sampleReceiver_stop {divisor : Nat} (hd : 2 ≤ divisor) {bits : List Bool} (hb : bits.length = 8) (high : Bool) :
    sampleReceiver divisor high (.character (9 * divisor + divisor / 2 - 1) bits)
      = if high then (.waiting true, [.byteReceived (byteOfBits bits)]) else (.held (9 * divisor + divisor / 2), []) := by
  have hage : 9 * divisor + divisor / 2 - 1 + 1 = 9 * divisor + divisor / 2 := by omega
  have hstart : 9 * divisor + divisor / 2 ≠ divisor / 2 := by omega
  have hstop : 9 * divisor + divisor / 2 = (bits.length + 1) * divisor + divisor / 2 := by rw [hb]
  have hlast : ¬ bits.length < 8 := by omega
  simp only [sampleReceiver, hage, if_neg hstart, if_pos hstop, if_neg hlast]

/-! ### A byte as its bits (R131) -/

theorem foldr_testBit (k x : Nat) :
    ((List.range k).map x.testBit).foldr (fun b n => b.toNat + 2 * n) 0 = x % 2 ^ k := by
  induction k generalizing x with
  | zero => simp [Nat.mod_one]
  | succ k ih =>
    have htail : (List.map Nat.succ (List.range k)).map x.testBit = (List.range k).map (x / 2).testBit := by
      rw [List.map_map]
      exact List.map_congr_left fun j _ => Nat.testBit_succ x j
    rw [List.range_succ_eq_map, List.map_cons, htail, List.foldr_cons, ih, Nat.pow_succ', Nat.mod_mul, Nat.testBit_zero]
    congr 1
    obtain hbit | hbit := Nat.mod_two_eq_zero_or_one x <;> simp [hbit]

theorem byteOfBits_getLsbD (b : Byte) : byteOfBits ((List.range 8).map b.getLsbD) = b := by
  have hbits : (List.range 8).map b.getLsbD = (List.range 8).map b.toNat.testBit := rfl
  rw [byteOfBits, hbits, foldr_testBit, Nat.mod_eq_of_lt b.isLt, BitVec.ofNat_toNat, BitVec.setWidth_eq]

/-! ### What the receiver finds (R132) -/

theorem two_le_divisor (l : HostLink) : 2 ≤ l.divisor := by
  unfold HostLink.divisor Config.bitDivisor
  split <;> decide

/-- The level a character puts on the line in each base period of its ten bit times. -/
def wireLevel (divisor : Nat) (b : Byte) (k : Nat) : Bool :=
  if k / divisor = 0 then false else if k / divisor = 9 then true else b.getLsbD (k / divisor - 1)

/-- The level of a line in a base period of its `i`th bit time. -/
theorem div_eq_bit {divisor i k : Nat} (hlow : i * divisor ≤ k) (hhigh : k < i * divisor + divisor) : k / divisor = i :=
  Nat.div_eq_of_lt_le hlow (by rw [Nat.succ_mul]; exact hhigh)

theorem replicate_false_eq_levels (n : Nat) : List.replicate n false = levels (fun _ => false) 0 n := by
  simp [levels]

section
variable {divisor : Nat} (hd : 2 ≤ divisor)
include hd

theorem middles_wireLevel (b : Byte) : middles divisor (wireLevel divisor b) 8 = (List.range 8).map b.getLsbD := by
  refine List.map_congr_left fun j hj => ?_
  rw [List.mem_range] at hj
  rw [wireLevel, div_eq_bit (i := j + 1) (by omega) (by omega), if_neg (by omega), if_neg (by omega), Nat.add_sub_cancel]

theorem levels_stopBit (b : Byte) : levels (wireLevel divisor b) (9 * divisor + divisor / 2) (divisor - divisor / 2)
    = true :: List.replicate (divisor - divisor / 2 - 1) true := by
  rw [← List.replicate_succ, levels, List.eq_replicate_iff]
  refine ⟨by simp; omega, fun x hx => ?_⟩
  obtain ⟨k, hk, rfl⟩ := List.mem_map.mp hx
  rw [List.mem_range'_1] at hk
  rw [wireLevel, div_eq_bit (i := 9) (by omega) (by omega)]
  rfl

theorem samplesAll_character (b : Byte) :
    samplesAll divisor ((List.range (10 * divisor)).map (wireLevel divisor b)) (.waiting true)
      = (.waiting true, [.byteReceived b]) := by
  have hsplit : 10 * divisor = 9 * divisor + divisor / 2 + (divisor - divisor / 2) := by omega
  have h0 : wireLevel divisor b 0 = false := by simp [wireLevel]
  have hm : wireLevel divisor b (divisor / 2) = false := by
    simp [wireLevel, div_eq_bit (divisor := divisor) (i := 0) (k := divisor / 2) (by omega) (by omega)]
  have hlevels : (List.range (10 * divisor)).map (wireLevel divisor b) = levels (wireLevel divisor b) 0 (10 * divisor) := by
    rw [levels, List.range_eq_range']
  rw [hlevels, hsplit, levels_append, samplesAll_then (samplesAll_beforeStop hd h0 hm), Nat.zero_add, levels_stopBit hd,
    samplesAll, sampleReceiver_stop hd (length_middles _ _), middles_wireLevel hd, byteOfBits_getLsbD, if_pos rfl,
    samplesAll_high]
  rfl

theorem samplesAll_glitch {n : Nat} (hn : n ≤ divisor / 2) :
    samplesAll divisor (List.replicate n false ++ List.replicate divisor true) (.waiting true) = (.waiting true, []) := by
  cases n with
  | zero => exact samplesAll_high divisor
  | succ n =>
    have hsplit : List.replicate divisor true = List.replicate (divisor / 2 - (n + 1)) true
        ++ ([true] ++ List.replicate (divisor - (divisor / 2 - (n + 1)) - 1) true) := by
      rw [← List.replicate_one, ← List.replicate_add, ← List.replicate_add]
      congr 1
      omega
    have hage : n + (divisor / 2 - (n + 1)) + 1 = divisor / 2 := by omega
    have hlow : samplesAll divisor (List.replicate n false) (.character 0 []) = (.character (0 + n) [], []) := by
      simpa using samplesAll_quiet (divisor := divisor) (bits := []) (ls := List.replicate n false) (age := 0) fun j _ hj => by
        simp only [List.length_replicate, List.length_nil] at hj ⊢
        omega
    have hhigh : samplesAll divisor (List.replicate (divisor / 2 - (n + 1)) true) (.character (0 + n) [])
        = (.character (n + (divisor / 2 - (n + 1))) [], []) := by
      rw [Nat.zero_add, samplesAll_quiet, List.length_replicate]
      intro j _ hj
      simp only [List.length_replicate, List.length_nil] at hj ⊢
      omega
    have hfirst : samplesAll divisor [false] (.waiting true) = (.character 0 [], []) := rfl
    rw [List.replicate_succ, hsplit, ← List.singleton_append, List.append_assoc, samplesAll_then hfirst,
      samplesAll_then hlow, samplesAll_then hhigh]
    simp only [List.singleton_append, samplesAll, sampleReceiver, hage, if_true, samplesAll_high,
      List.append_nil]

/-- A low past the middle of the tenth bit time holds the character. -/
theorem samplesAll_low {n : Nat} (hn : 9 * divisor + divisor / 2 < n) (hshort : n ≤ 20 * divisor) :
    samplesAll divisor (List.replicate n false) (.waiting true) = (.held (n - 1), []) := by
  have hsplit : n = 9 * divisor + divisor / 2 + (1 + (n - (9 * divisor + divisor / 2) - 1)) := by omega
  have hage : n - 1 = 9 * divisor + divisor / 2 + (n - (9 * divisor + divisor / 2) - 1) := by omega
  rw [hage]
  conv_lhs => rw [hsplit]
  rw [List.replicate_add, replicate_false_eq_levels (9 * divisor + divisor / 2),
    samplesAll_then (samplesAll_beforeStop hd rfl rfl), List.replicate_add]
  simp only [List.replicate_one, List.singleton_append, samplesAll, sampleReceiver_stop hd (length_middles _ _),
    Bool.false_eq_true, if_false, List.nil_append]
  rw [samplesAll_held (by omega)]

theorem samplesAll_badCharacter {n : Nat} (hn : 9 * divisor + divisor / 2 < n) (hshort : n < 20 * divisor) :
    samplesAll divisor (List.replicate n false ++ [true]) (.waiting true)
      = (.waiting true, [.framingError .badCharacter]) := by
  have hage : ¬ 2 * Config.characterBits * divisor ≤ n - 1 + 1 := by
    simp only [Config.characterBits]
    omega
  rw [samplesAll_then (samplesAll_low hd hn (by omega))]
  simp only [samplesAll, sampleReceiver, if_neg hage, if_true, List.append_nil]

theorem samplesAll_break (level : Bool) :
    (samplesAll divisor (List.replicate (20 * divisor) false ++ [level]) (.waiting true)).2 = [.lineBreak] := by
  have hage : 2 * Config.characterBits * divisor ≤ 20 * divisor - 1 + 1 := by
    simp only [Config.characterBits]
    omega
  rw [samplesAll_then (samplesAll_low hd (by omega) (Nat.le_refl _))]
  simp only [samplesAll, sampleReceiver, if_pos hage, List.append_nil]

end

/-! ### The level of TXD (R133) -/

theorem characterLevel_eq (b : Byte) {bit : Nat} (h : bit < 10) :
    characterLevel b bit = if bit = 0 then false else if bit = 9 then true else b.getLsbD (bit - 1) := by
  unfold characterLevel
  by_cases h0 : bit = 0
  · rw [if_pos h0, if_pos h0]
  · rw [if_neg h0, if_neg h0]
    by_cases h9 : bit = 9
    · rw [if_neg (by omega), if_pos h9]
    · rw [if_pos (by omega), if_neg h9]

/-- The base periods gone by in a frame, from those that lie ahead. -/
theorem frameSpan_sub {divisor : Nat} {frame : List Byte} {byte bit k : Nat} (hbyte : byte < frame.length) (hbit : bit < 10)
    (hk : k < divisor) :
    frameSpan divisor frame - (10 * divisor * frame.length - 1 - ((10 * byte + bit) * divisor + k))
      = (10 * byte + bit) * divisor + k := by
  have hmul : (10 * byte + bit) * divisor + divisor ≤ 10 * divisor * frame.length := calc
    (10 * byte + bit) * divisor + divisor = (10 * byte + bit + 1) * divisor := (Nat.succ_mul _ _).symm
    _ ≤ 10 * frame.length * divisor := Nat.mul_le_mul_right _ (by omega)
    _ = 10 * divisor * frame.length := Nat.mul_right_comm _ _ _
  simp only [frameSpan, Config.characterBits]
  omega

theorem txd_sending {s : State} {frame : List Byte} {source : FrameSource} {byte bit k : Nat} {b : Byte}
    (ht : s.link.transmitter = .sending frame
      (10 * s.link.divisor * frame.length - 1 - ((10 * byte + bit) * s.link.divisor + k)) source)
    (hb : frame[byte]? = some b) (hbit : bit < 10) (hk : k < s.link.divisor) : s.txd = characterLevel b bit := by
  have hbyte : byte < frame.length := (List.getElem?_eq_some_iff.mp hb).1
  have hpast : ((10 * byte + bit) * s.link.divisor + k) / s.link.divisor = 10 * byte + bit := by
    rw [Nat.mul_comm, Nat.mul_add_div (by omega), Nat.div_eq_of_lt hk, Nat.add_zero]
  have hquotient : (10 * byte + bit) / 10 = byte := by omega
  have hremainder : (10 * byte + bit) % 10 = bit := by omega
  have hget : frame.getD byte 0 = b := by rw [List.getD_eq_getElem?_getD, hb, Option.getD_some]
  unfold State.txd
  rw [ht]
  simp only [frameSpan_sub hbyte hbit hk, hpast, Config.characterBits, hquotient, hremainder, hget]

/-- Settles O3: the receiver from middle to middle, and the transmitter's level by the base periods gone by. -/
theorem charactersPassBitByBit : Obligations.CharactersPassBitByBit := by
  refine ⟨fun l b n level => ?_, fun s ht => ?_, fun s frame source byte bit k b ht hb hbit hk => ?_,
    fun s frame slot before ht => ?_⟩
  · have hd := two_le_divisor l
    exact ⟨samplesAll_character hd b, samplesAll_glitch hd, samplesAll_badCharacter hd, samplesAll_break hd level,
      samplesAll_unheard n, rfl⟩
  · unfold State.txd
    obtain ht | ht := ht <;> rw [ht]
  · rw [txd_sending ht hb hbit hk, characterLevel_eq b hbit]
  · unfold State.txd
    rw [ht]

end Sys2Proof.Machine
end

section
/-! PROOF. The Host Link's invariant, operation by operation (R141, R146, R148, R153, R162, R163, R167): the queues within their
capacities, the waiting requests and their copies, and the report window. -/

namespace Sys2Proof.Machine

/-! ### Events (R161, R162) -/

theorem makeEventRoom_sound {l : HostLink} (h : l.sound) :
    (makeEventRoom l).sound ∧ (makeEventRoom l).events.length + 1 ≤ Config.eventCapacity := by
  unfold makeEventRoom
  cases hevents : l.events with
  | nil =>
    refine ⟨h, ?_⟩
    rw [hevents]
    decide
  | cons oldest rest =>
    obtain ⟨⟨hintake, hreplies, hcache, hwindow, hcapacity⟩, hdistinct, hslots, hattempts, htimers, hclosed⟩ := h
    rw [hevents, List.length_cons] at hcapacity
    simp only
    split
    · refine ⟨⟨⟨hintake, hreplies, hcache, hwindow, Nat.le_of_succ_le hcapacity⟩, hdistinct, hslots, hattempts, htimers,
        fun hs => ?_⟩, hcapacity⟩
      exact absurd (hevents.symm.trans (hclosed hs).2) (List.cons_ne_nil _ _)
    next hroom =>
      refine ⟨⟨⟨hintake, hreplies, hcache, hwindow, ?_⟩, hdistinct, hslots, hattempts, htimers, hclosed⟩, ?_⟩
      · rw [hevents]
        exact hcapacity
      · rw [hevents]
        exact Nat.lt_of_not_le hroom

theorem makeEventRoom_session (l : HostLink) : (makeEventRoom l).session = l.session := by
  unfold makeEventRoom
  repeat' split
  all_goals rfl

theorem makeEventRoom_replies (l : HostLink) : (makeEventRoom l).replies = l.replies := by
  unfold makeEventRoom
  repeat' split
  all_goals rfl

theorem appendEvent_sound {l : HostLink} (stamp : Epoch) (e : Event) (h : l.sound) (hs : l.session ≠ .closed) :
    (appendEvent stamp e l).sound := by
  obtain ⟨⟨⟨hintake, hreplies, hcache, hwindow, -⟩, hdistinct, hslots, hattempts, htimers, -⟩, hroom⟩ :=
    makeEventRoom_sound h
  refine ⟨⟨hintake, hreplies, hcache, hwindow, ?_⟩, hdistinct, hslots, hattempts, htimers, fun hc => ?_⟩
  · simpa [appendEvent] using hroom
  · exact absurd ((makeEventRoom_session l).symm.trans hc) hs

/-- A property of the Host Link that no event passed to it changes. -/
def keptByEvents (Q : HostLink → Prop) : Prop := ∀ (stamp : Epoch) (e : Event) (l : HostLink), Q l → Q (postEvent stamp e l)

theorem sound_keptByEvents : keptByEvents HostLink.sound := by
  intro stamp e l h
  unfold postEvent
  split
  · exact h
  next p hp =>
    have hs : l.session ≠ .closed := fun hc => by simp [hc, Session.params] at hp
    split
    · exact appendEvent_sound stamp e h hs
    · exact h

/-- A request is being carried out: the Host Link is sound, with room for its reply (R147). -/
def HostLink.takesReply (l : HostLink) : Prop := l.sound ∧ l.replies.length < Config.replyCapacity

theorem takesReply_keptByEvents : keptByEvents HostLink.takesReply := by
  intro stamp e l ⟨h, hroom⟩
  refine ⟨sound_keptByEvents stamp e l h, ?_⟩
  unfold postEvent
  split
  · exact hroom
  · split
    · exact (congrArg List.length (makeEventRoom_replies l)).trans_lt hroom
    · exact hroom

/-! ### The report window (R163 to R168) -/

/-- The reports held change, each in its slot. -/
theorem sound_mapWindow {l : HostLink} {f : HeldReport → HeldReport} {session : Session} (h : l.sound)
    (hslot : ∀ w, (f w).slot = w.slot)
    (hf : ∀ w ∈ l.window, 1 ≤ (f w).attempts ∧ (f w).attempts ≤ Config.maxAttempts)
    (htimer : session.isOpen = false → ∀ w ∈ l.window, (f w).timer = none) (hclosed : session = .closed → l.session = .closed) :
    ({ l with session := session, window := l.window.map f } : HostLink).sound := by
  obtain ⟨⟨hintake, hreplies, hcache, hwindow, hevents⟩, hdistinct, hslots, -, -, hempty⟩ := h
  have hsame : (l.window.map f).map HeldReport.slot = l.window.map HeldReport.slot := by
    rw [List.map_map]
    exact List.map_congr_left fun w _ => hslot w
  refine ⟨⟨hintake, hreplies, hcache, ?_, hevents⟩, hdistinct, ?_, ?_, fun hs => ?_, fun hs => ?_⟩
  · rw [List.length_map]
    exact hwindow
  · rw [hsame]
    exact hslots
  · rw [List.forall_mem_map]
    exact hf
  · rw [List.forall_mem_map]
    exact htimer hs
  · obtain ⟨hnone, he⟩ := hempty (hclosed hs)
    exact ⟨by rw [hnone]; rfl, he⟩

theorem resumeSession_sound {l : HostLink} (h : l.sound) : (resumeSession l).sound := by
  unfold resumeSession
  split
  next p hs =>
    have hattempts : ∀ onLine w, (resumeReport onLine w).attempts = 1 := fun onLine w => by
      unfold resumeReport
      split <;> rfl
    refine sound_mapWindow h (fun w => ?_) (fun w _ => ?_) (fun ho => absurd ho (by simp [Session.isOpen])) nofun
    · unfold resumeReport
      split <;> rfl
    · rw [hattempts]
      decide
  · exact h
  · exact h

/-- Held reports leave the window. -/
theorem sound_filterWindow {l : HostLink} (h : l.sound) (test : HeldReport → Bool) :
    ({ l with window := l.window.filter test } : HostLink).sound := by
  obtain ⟨⟨hintake, hreplies, hcache, hwindow, hevents⟩, hdistinct, hslots, hattempts, htimers, hempty⟩ := h
  refine ⟨⟨hintake, hreplies, hcache, (List.length_filter_le _ _).trans hwindow, hevents⟩, hdistinct,
    hslots.sublist (List.filter_sublist.map _), fun w hw => hattempts w (List.mem_of_mem_filter hw),
    fun hs w hw => htimers hs w (List.mem_of_mem_filter hw), fun hs => ?_⟩
  obtain ⟨hnone, he⟩ := hempty hs
  exact ⟨by rw [hnone]; rfl, he⟩

theorem recallChosen_sound {l : HostLink} (seq : Byte) (h : l.sound) : (recallChosen seq l).sound := by
  unfold recallChosen
  split
  · split <;> exact h
  · exact h
  · exact h
  · exact h

theorem confirmReport_sound {l : HostLink} (seq : Byte) (h : l.sound) : (confirmReport seq l).sound := by
  unfold confirmReport
  split
  · exact sound_filterWindow (recallChosen_sound seq h) _
  · exact h

/-- The reports emptied with the session (R152, R153). -/
theorem emptyReports_sound {l : HostLink} (session : Session) (h : l.sound) :
    ({ emptyReports l with session := session } : HostLink).sound := by
  obtain ⟨⟨hintake, hreplies, hcache, -, -⟩, hdistinct, -⟩ := h
  exact ⟨⟨hintake, hreplies, hcache, Nat.zero_le _, Nat.zero_le _⟩, hdistinct, List.nodup_nil, nofun, fun _ => nofun,
    fun _ => ⟨rfl, rfl⟩⟩

theorem tellSource_sound {l : HostLink} (source : FrameSource) (h : l.sound) : (tellSource source l).sound := by
  unfold tellSource
  split
  · split <;> exact h
  · split
    next slot _ p hs =>
      refine sound_mapWindow (session := l.session) h (fun w => ?_) (fun w hw => ?_) (fun ho => ?_) id
      · unfold loadTimer
        split <;> rfl
      · have hattempts := h.2.2.2.1 w hw
        unfold loadTimer
        split <;> exact hattempts
      · simp [hs, Session.isOpen] at ho
    · exact h
    · exact h

theorem suspendSession_sound {l : HostLink} (p : SessionParams) (h : l.sound) : (suspendSession p l).sound :=
  sound_mapWindow (session := .suspended p) h (fun _ => rfl) h.2.2.2.1 (fun _ _ _ => rfl) nofun

theorem expireReport_sound {l : HostLink} (slot : Fin 4) (h : l.sound) : (expireReport slot l).sound := by
  obtain ⟨-, -, hslots, hattempts, -⟩ := id h
  unfold expireReport
  split
  next p hs =>
    split
    · exact h
    next held he =>
      have hheld := List.mem_of_find?_eq_some he
      have hslot : held.slot = slot := by
        have hfound := List.find?_some he
        simp only [Bool.and_eq_true, decide_eq_true_eq] at hfound
        exact hfound.1
      split
      next hlt =>
        refine sound_mapWindow (session := l.session) h (fun w => ?_) (fun w hw => ?_) (fun ho => ?_) id
        · unfold timeOutReport
          split <;> rfl
        · unfold timeOutReport
          split
          next hw' =>
            obtain rfl : w = held := List.inj_on_of_nodup_map hslots hw hheld (hw'.trans hslot.symm)
            exact ⟨Nat.le_add_left _ _, hlt⟩
          · exact hattempts w hw
        · simp [hs, Session.isOpen] at ho
      · exact suspendSession_sound p h
  · exact h
  · exact h

theorem tickLink_sound {l : HostLink} (rxd : Bool) (h : l.sound) : (tickLink rxd l).1.sound :=
  sound_mapWindow (f := fun w => { w with timer := timerTick w.timer, due := w.due.settle }) (session := l.session) h
    (fun _ => rfl) h.2.2.2.1 (fun ho w hw => by simp [timerTick, h.2.2.2.2.1 ho w hw]) id

theorem resend_sound {l : HostLink} (w : HeldReport) (h : l.sound) : (resend w l).sound := by
  have hcleared : ({ l with window := l.window.map (clearDue w.slot) } : HostLink).sound := by
    refine sound_mapWindow (session := l.session) h (fun v => ?_) (fun v hv => ?_) (fun ho v hv => ?_) id
    · unfold clearDue
      split <;> rfl
    · have hattempts := h.2.2.2.1 v hv
      unfold clearDue
      split <;> exact hattempts
    · have htimer := h.2.2.2.2.1 ho v hv
      unfold clearDue
      split <;> exact htimer
  unfold resend
  cases w.due with
  | no => exact h
  | justTimed => exact hcleared
  | byTimer => exact hcleared
  | byResume => exact hcleared

/-- A report taken into a free slot of an OPEN session (R163). -/
theorem beginReport_sound {l : HostLink} (code : Byte) (payload : List Byte) (h : l.sound)
    (hroom : l.window.length < Config.windowCapacity) (ho : l.session.isOpen = true) : (beginReport code payload l).sound := by
  obtain ⟨⟨hintake, hreplies, hcache, -, hevents⟩, hdistinct, hslots, hattempts, -, -⟩ := h
  refine ⟨⟨hintake, hreplies, hcache, ?_, hevents⟩, hdistinct, ?_, ?_, fun hc => ?_, fun hc => ?_⟩
  · simpa [beginReport, beginFrame] using hroom
  · have hfree := freeSlot_is_free hroom
    simp only [beginReport, beginFrame, List.map_append, List.map_cons, List.map_nil]
    refine List.nodup_append.mpr ⟨hslots, List.nodup_singleton _, fun a ha b hb => ?_⟩
    obtain ⟨w, hw, rfl⟩ := List.mem_map.mp ha
    rw [List.mem_singleton.mp hb]
    exact hfree w hw
  · intro w hw
    simp only [beginReport, beginFrame, List.mem_append, List.mem_singleton] at hw
    obtain hw | rfl := hw
    · exact hattempts w hw
    · exact ⟨Nat.le_refl 1, Nat.le_of_ble_eq_true rfl⟩
  · exact absurd (ho.symm.trans hc) Bool.noConfusion
  · have hclosed : l.session = .closed := hc
    simp [hclosed, Session.isOpen] at ho

/-! ### The intake queue (R146, R174) -/

theorem offerRequest_sound {l : HostLink} (r : Request) (h : l.sound) : (offerRequest r l).sound := by
  unfold offerRequest
  split
  · exact h
  next hflight =>
    split
    · exact h
    next hroom =>
      obtain ⟨⟨hintake, hreplies, hcache, hwindow, hevents⟩, ⟨hwaiting, hcopies, hasked⟩, hwindowed⟩ := h
      have hnew : ∀ w ∈ l.intake, ¬ (w.seq = r.seq ∧ w.code = r.code) := fun w hw heq =>
        hflight ((inFlight_iff l r).mpr (.inl ⟨w, hw, heq⟩))
      have hcopy : ∀ e ∈ (l.cached r).toList, e.seq = r.seq ∧ e.code = r.code := fun e he =>
        (Reply.answers_iff e r).mp (List.find?_some (Option.mem_toList.mp he) :)
      refine ⟨⟨?_, hreplies, hcache, hwindow, hevents⟩, ⟨?_, ?_, fun e he => ?_⟩, hwindowed⟩
      · simpa using hroom
      · rw [List.map_append, List.map_singleton]
        refine List.nodup_append.mpr ⟨hwaiting, List.nodup_singleton _, fun a ha b hb => ?_⟩
        obtain ⟨w, hw, rfl⟩ := List.mem_map.mp ha
        rw [List.mem_singleton.mp hb]
        exact fun heq => hnew w hw (Prod.mk.inj heq)
      · rw [List.map_append]
        refine List.nodup_append.mpr ⟨hcopies, ?_, fun a ha b hb heq => ?_⟩
        · cases l.cached r <;> simp
        · obtain ⟨e, he, rfl⟩ := List.mem_map.mp ha
          obtain ⟨e', he', rfl⟩ := List.mem_map.mp hb
          obtain ⟨w, hw, hseq, hcode⟩ := hasked e he
          obtain ⟨hseq', hcode'⟩ := hcopy e' he'
          obtain ⟨hs, hc⟩ := Prod.mk.inj heq
          exact hnew w hw ⟨hseq.trans (hs.trans hseq'), hcode.trans (hc.trans hcode')⟩
      · obtain he | he := List.mem_append.mp he
        · obtain ⟨w, hw, heq⟩ := hasked e he
          exact ⟨w, List.mem_append_left _ hw, heq⟩
        · obtain ⟨hseq, hcode⟩ := hcopy e he
          exact ⟨r, List.mem_append_right _ (List.mem_singleton_self r), hseq.symm, hcode.symm⟩

/-- A request taken from the head of the queue, whose copy waits no longer. -/
theorem popIntake_sound {s : State} {r : Request} {rest : List Request} (h : s.link.sound) (hi : s.link.intake = r :: rest)
    (hnone : ∀ e ∈ s.link.copies, ¬ (e.seq = r.seq ∧ e.code = r.code)) : (popIntake s).link.sound := by
  obtain ⟨⟨hintake, hreplies, hcache, hwindow, hevents⟩, ⟨hwaiting, hcopies, hasked⟩, hwindowed⟩ := h
  have htail : (popIntake s).link.intake = rest := by
    rw [popIntake, hi]
    rfl
  refine ⟨⟨?_, hreplies, hcache, hwindow, hevents⟩, ⟨?_, hcopies, fun e he => ?_⟩, hwindowed⟩
  · rw [htail]
    rw [hi, List.length_cons] at hintake
    exact Nat.le_of_succ_le hintake
  · rw [htail]
    rw [hi, List.map_cons] at hwaiting
    exact (List.nodup_cons.mp hwaiting).2
  · obtain ⟨w, hw, hseq, hcode⟩ := hasked e he
    rw [hi] at hw
    obtain rfl | hw := List.mem_cons.mp hw
    · exact absurd ⟨hseq.symm, hcode.symm⟩ (hnone e he)
    · exact ⟨w, by rw [htail]; exact hw, hseq, hcode⟩

theorem forgetCopy_sound {s : State} (r : Request) (h : s.link.sound) : (forgetCopy r s).link.sound
    ∧ ∀ e ∈ (forgetCopy r s).link.copies, ¬ (e.seq = r.seq ∧ e.code = r.code) := by
  obtain ⟨hcapacities, ⟨hwaiting, hcopies, hasked⟩, hwindowed⟩ := h
  refine ⟨⟨hcapacities, ⟨hwaiting, hcopies.sublist (List.filter_sublist.map _), fun e he =>
    hasked e (List.mem_of_mem_filter he)⟩, hwindowed⟩, fun e he heq => ?_⟩
  have hother := List.of_mem_filter he
  simp [(Reply.answers_iff e r).mpr heq] at hother

/-- A reply joins its queue and the cache (R141, R148). -/
theorem completeReply_sound {l : HostLink} (q : QueuedReply) (h : l.takesReply) : (completeReply q l).sound := by
  obtain ⟨⟨⟨hintake, -, -, hwindow, hevents⟩, hdistinct, hwindowed⟩, hroom⟩ := h
  refine ⟨⟨hintake, ?_, ?_, hwindow, hevents⟩, hdistinct, hwindowed⟩
  · simpa [completeReply, queueReply] using hroom
  · simp only [completeReply, queueReply, keepLast, List.length_drop, List.length_append, List.length_singleton]
    omega

theorem answerFromCache_sound {s : State} (e : Reply) (h : s.link.takesReply) : (answerFromCache e s).link.sound := by
  obtain ⟨⟨⟨hintake, -, hcache, hwindow, hevents⟩, hdistinct, hwindowed⟩, hroom⟩ := h
  refine ⟨⟨hintake, ?_, hcache, hwindow, hevents⟩, hdistinct, hwindowed⟩
  simpa [answerFromCache, queueReply] using hroom

/-- A break empties the intake queue (R140). -/
theorem breakFound_sound {l : HostLink} (h : l.sound) : (breakFound l).sound := by
  obtain ⟨⟨-, hreplies, hcache, hwindow, hevents⟩, -, hwindowed⟩ := h
  exact ⟨⟨Nat.zero_le _, hreplies, hcache, hwindow, hevents⟩, ⟨List.nodup_nil, List.nodup_nil, nofun⟩, hwindowed⟩

/-! ### Bytes and frames (R137, R138) -/

theorem testFrame_sound {l : HostLink} (h : l.sound) : (testFrame l).sound := by
  unfold testFrame
  repeat' split
  · exact offerRequest_sound _ (resumeSession_sound (l := goodFrame l) h)
  · exact confirmReport_sound _ (l := goodFrame l) h
  all_goals exact h

theorem takeByte_sound {l : HostLink} (b : Byte) (h : l.sound) : (takeByte b l).sound := by
  have hheader : ∀ got crc, (takeHeaderByte got crc b l).sound := fun got crc => by
    unfold takeHeaderByte
    simp only
    repeat' split
    all_goals exact h
  have hbody : ∀ header payload low crc, (takeBodyByte header payload low crc b l).sound := fun header payload low crc => by
    unfold takeBodyByte
    repeat' split
    · exact h
    · exact h
    · exact testFrame_sound h
  unfold takeByte
  repeat' split
  · exact h
  · exact h
  · exact hheader _ _
  · exact hbody _ _ _ _
  · exact h

theorem takeFramingError_sound {l : HostLink} (cause : FramingCause) (h : l.sound) : (takeFramingError cause l).sound := by
  cases cause with
  | badClass | badLength | badLinkAck => exact h
  | badCharacter =>
    change (takeBadCharacter l).sound
    unfold takeBadCharacter
    split <;> exact h

theorem onCharacter_sound {s : State} {f : HostLink → HostLink} (hf : ∀ l : HostLink, l.sound → (f l).sound)
    (h : s.link.sound) : (onCharacter f s).link.sound := by
  unfold onCharacter
  split
  · exact hf _ h
  · exact h

theorem atReset_sound (cause : ResetCause) (b1 b0 : Bool) : (HostLink.atReset cause b1 b0).sound :=
  ⟨⟨Nat.zero_le _, Nat.zero_le _, Nat.zero_le _, Nat.zero_le _, Nat.zero_le _⟩,
    ⟨List.nodup_nil, List.nodup_nil, nofun⟩, List.nodup_nil, nofun, fun _ => nofun, fun _ => ⟨rfl, rfl⟩⟩

end Sys2Proof.Machine
end

section
/-! PROOF. Every step keeps the Host Link sound: the engine's operations reach it through the events they pass alone, and a
request through its carrying out and its reply. -/

namespace Sys2Proof.Machine

/-! ### The engine passes events (R161) -/

theorem armRun_link (s : State) : (armRun s).link = s.link := enterArmed_link _

section
variable {Q : HostLink → Prop} (hQ : keptByEvents Q)
include hQ

theorem passAll_keeps {s : State} (events : List Event) (h : Q s.link) : Q (passAll events s).link := by
  have hall : ∀ l : HostLink, Q l → Q (events.foldl (fun l e => postEvent s.now e l) l) := by
    induction events with
    | nil => exact fun _ hl => hl
    | cons e rest ih => exact fun l hl => ih _ (hQ s.now e l hl)
  exact hall s.link h

theorem endRun_keeps {s : State} (reason : RunEndReason) (h : Q s.link) : Q (endRun reason s).link :=
  passAll_keeps hQ _ (s := leaveRun reason s) h

theorem armingBoundary_keeps {s : State} (h : Q s.link) : Q (armingBoundary s).link :=
  passAll_keeps hQ _ (s := (boundarySequence s).state) (by rwa [boundarySequence_link])

theorem afterClose_keeps {s : State} (outcome : CycleOutcome) (restart : Option StartTaken) (h : Q s.link) :
    Q (afterClose outcome restart s).link :=
  passAll_keeps hQ _ (s := (afterCloseSequence outcome restart s).state) (by rwa [afterCloseSequence_link])

theorem requestAdmission_keeps {s : State} (r : ClosedRecord) (restart : Option StartTaken) (h : Q s.link) :
    Q (requestAdmission r restart s).link := by
  unfold requestAdmission
  split
  · exact afterClose_keeps hQ _ _ h
  · split
    · exact hQ _ _ _ h
    · refine passAll_keeps hQ _ (s := { (afterCloseSequence _ _ _).state with choices := _ }) ?_
      change Q (afterCloseSequence r.record.outcome restart { s with queue := countLoss s.queue }).state.link
      rwa [afterCloseSequence_link]

theorem closeCycle_keeps {s : State} (e : Ending) (restart : Option StartTaken) (h : Q s.link) :
    Q (closeCycle e restart s).link := by
  unfold closeCycle
  split
  · exact h
  · exact requestAdmission_keeps hQ _ _ h

theorem offerHeld_keeps {s : State} (h : Q s.link) : Q (offerHeld s).link := by
  unfold offerHeld
  split
  · exact h
  · split
    · exact afterClose_keeps hQ _ _ (hQ _ _ _ h)
    · exact h

theorem startEvent_keeps {s : State} (src : StartTaken) (h : Q s.link) : Q (startEvent src s).link := by
  unfold startEvent
  split
  · split
    · exact h
    · exact h
    · split
      · exact h
      · exact closeCycle_keeps hQ _ _ h
    · exact h
    · exact h
  · exact h

theorem deliverEdge_keeps {s : State} (e : HeldEdge) (h : Q s.link) : Q (deliverEdge e s).link := by
  unfold deliverEdge
  split <;> split
  · exact startEvent_keeps hQ _ h
  · exact h
  · unfold qualifiedStop
    simp only
    split
    · exact closeCycle_keeps hQ _ _ h
    · exact h
  · exact h

theorem takeTransition_keeps {s : State} (line : Line) (h : Q s.link) : Q (takeTransition line s).link := by
  unfold takeTransition
  split
  · split
    · exact h
    · simp only
      split
      · rw [passEdge, judges_eq, edgeOf]
        split
        · exact deliverEdge_keeps hQ _ h
        · exact h
      · exact h
      · exact h
  · exact h

theorem carryArm_keeps {s : State} (r : Request) (h : Q s.link) : Q (carryArm r s).1.link := by
  unfold carryArm
  split
  · split
    · rw [armRun_link]
      exact hQ _ _ _ h
    · split
      · rwa [armRun_link]
      · exact h
  · exact h

theorem disarm_keeps {s : State} (h : Q s.link) : Q (disarm s).link := by
  unfold disarm
  split
  · exact h
  · exact endRun_keeps hQ _ h
  · exact endRun_keeps hQ _ h
  · exact h
  · exact h

theorem abortRun_keeps {s : State} (h : Q s.link) : Q (abortRun s).link := by
  unfold abortRun
  split
  · exact h
  · exact endRun_keeps hQ _ h
  · exact endRun_keeps hQ _ h
  · exact closeCycle_keeps hQ _ _ h
  · split
    · exact endRun_keeps hQ _ h
    · exact endRun_keeps hQ _ (hQ _ _ _ (hQ _ _ _ h))

theorem selectProfile_keeps {s : State} (r : Request) (h : Q s.link) : Q (selectProfile r s).1.link := by
  unfold selectProfile
  split
  · exact h
  · split
    · exact h
    · split
      · exact h
      · exact h
      · split
        · exact hQ _ _ _ h
        · exact h

theorem ackResults_keeps {s : State} (r : Request) (h : Q s.link) : Q (ackResults r s).1.link := by
  unfold ackResults
  split
  · exact h
  · split
    · exact h
    · exact offerHeld_keeps hQ h

end

/-! ### Requests that leave the Host Link to their reply -/

theorem clearSlot_link (r : Request) (s : State) : (clearSlot r s).1.link = s.link := by
  unfold clearSlot
  repeat' split
  all_goals rfl

theorem setGlobal_link (r : Request) (s : State) : (setGlobal r s).1.link = s.link := by
  unfold setGlobal
  simp only
  repeat' split
  all_goals rfl

theorem setChannel_link (r : Request) (s : State) : (setChannel r s).1.link = s.link := by
  unfold setChannel
  simp only
  repeat' split
  all_goals rfl

theorem readProfile_link (r : Request) (s : State) : (readProfile r s).1.link = s.link := by
  unfold readProfile
  repeat' split
  all_goals rfl

theorem checkSlot_link (r : Request) (s : State) : (checkSlot r s).1.link = s.link := by
  unfold checkSlot
  repeat' split
  all_goals rfl

theorem readResult_link (r : Request) (s : State) : (readResult r s).1.link = s.link := by
  unfold readResult
  repeat' split
  all_goals rfl

/-! ### A request taken (R147) -/

theorem takeRequest_sound {mine : Byte → Bool} {carryOut : Request → State → State} {s : State} (h : s.link.sound)
    (hc : ∀ r u, u.link.takesReply → (carryOut r u).link.sound) : (takeRequest mine carryOut s).link.sound := by
  unfold takeRequest
  split
  · exact h
  next r rest hi =>
    split
    next htake =>
      have hroom : s.link.replies.length < Config.replyCapacity := by
        simp only [State.canTake, Bool.and_eq_true, decide_eq_true_eq] at htake
        exact htake.1.1.1.2
      obtain ⟨hforgotten, hnone⟩ := forgetCopy_sound r h
      have hpopped : (popIntake (forgetCopy r s)).link.takesReply := ⟨popIntake_sound hforgotten hi hnone, hroom⟩
      split
      · exact answerFromCache_sound _ hpopped
      · split
        · exact answerFromCache_sound _ hpopped
        next hfound =>
          have hfresh : (popIntake s).link.takesReply := by
            refine ⟨popIntake_sound h hi fun e he heq => ?_, hroom⟩
            exact List.find?_eq_none.mp hfound e he ((Reply.answers_iff e r).mpr heq)
          unfold dealWith
          split
          · exact completeReply_sound _ hfresh
          · exact hc r _ hfresh
    · exact h

theorem answered_sound {mine : Byte → Bool} {f : Request → State → State × Answer} {s : State} (h : s.link.sound)
    (hf : ∀ r u, u.link.takesReply → (f r u).1.link.takesReply) : (takeRequest mine (answered f) s).link.sound :=
  takeRequest_sound h fun r u hu => completeReply_sound _ (hf r u hu)

theorem answered_sound_of_link {mine : Byte → Bool} {f : Request → State → State × Answer} {s : State} (h : s.link.sound)
    (hf : ∀ r u, (f r u).1.link = u.link) : (takeRequest mine (answered f) s).link.sound :=
  answered_sound h fun r u hu => (hf r u).symm ▸ hu

theorem carryOpen_takesReply (r : Request) {s : State} (h : s.link.takesReply) : (carryOpen r s).1.link.takesReply := by
  unfold carryOpen
  repeat' split
  · exact h
  · exact h
  · exact h
  · exact ⟨emptyReports_sound _ h.1, h.2⟩

theorem readStats_takesReply {clear : State → State} (hclear : ∀ s : State, s.link.takesReply → (clear s).link.takesReply)
    (r : Request) {s : State} (h : s.link.takesReply) : (readStats clear r s).1.link.takesReply := by
  unfold readStats
  repeat' split
  · exact h
  · exact hclear s h
  · exact h

/-! ### Commands -/

theorem exec_keeps_linkSound {c : Instr} {s t : State} (h : s.link.sound) (ht : exec c s = .next t) : t.link.sound := by
  cases c with
  | requestFrameArrival seq code payload =>
    simp only [exec, execRequestFrameArrival] at ht
    split at ht
    · cases ht
      exact onCharacter_sound (fun l hl => offerRequest_sound _ (resumeSession_sound (l := goodFrame l) hl)) h
    · cases ht
  | pinReset =>
    cases ht
    unfold pinReset
    simp only
    split
    · exact atReset_sound _ _ _
    · exact h
  | resetNRelease b1 b0 =>
    cases ht
    unfold resetNRelease
    simp only
    split
    · exact atReset_sound .pin b1 b0
    · exact h
  | requestReset b1 b0 =>
    cases ht
    unfold requestReset
    split
    · exact atReset_sound .request b1 b0
    · exact h
  | refclkStop => cases ht; exact h
  | refclkResume => cases ht; exact h
  | startTransition => cases ht; exact takeTransition_keeps sound_keptByEvents _ h
  | stopTransition ch => cases ht; exact takeTransition_keeps sound_keptByEvents _ h
  | filterLapse line =>
    cases ht
    unfold lapseLine
    split <;> exact h
  | blankingEnd ch =>
    cases ht
    unfold blankingEnd
    split <;> exact h
  | windowExpiry =>
    cases ht
    unfold windowExpiry
    split
    · exact closeCycle_keeps sound_keptByEvents _ _ h
    · exact h
  | holdoffExpiry =>
    cases ht
    unfold holdoffExpiry
    split
    · exact armingBoundary_keeps sound_keptByEvents h
    · exact h
  | framingError cause => cases ht; exact onCharacter_sound (fun _ => takeFramingError_sound cause) h
  | crcError => cases ht; exact onCharacter_sound (fun _ hl => hl) h
  | misdirectedFrame => cases ht; exact onCharacter_sound (fun _ hl => hl) h
  | linkAck seq => cases ht; exact onCharacter_sound (fun l hl => confirmReport_sound seq (l := goodFrame l) hl) h
  | byteReceived b => cases ht; exact onCharacter_sound (fun _ => takeByte_sound b) h
  | gapTimeout =>
    cases ht
    unfold gapTimeout
    split <;> exact h
  | lineBreak =>
    cases ht
    unfold takeBreak
    split
    · exact breakFound_sound h
    · exact h
  | receiveLineHighAgain =>
    cases ht
    unfold lineHighAgain
    split <;> exact h
  | frameSent =>
    cases ht
    unfold frameSent
    split
    · split
      · exact tellSource_sound _ h
      · exact h
    all_goals exact h
  | reportTimeout slot =>
    cases ht
    unfold reportTimeout
    split
    · exact expireReport_sound slot h
    · exact h
  | identify => cases ht; exact answered_sound_of_link h fun _ _ => rfl
  | status => cases ht; exact answered_sound_of_link h fun _ _ => rfl
  | sessionOpen => cases ht; exact answered_sound h fun r u => carryOpen_takesReply r
  | sessionClose => cases ht; exact answered_sound h fun _ _ hu => ⟨emptyReports_sound .closed hu.1, hu.2⟩
  | linkStats => cases ht; exact answered_sound h fun r _ => readStats_takesReply (clear := clearStats) (fun _ hs => hs) r
  | deviceReset => cases ht; exact takeRequest_sound h fun _ _ hu => completeReply_sound _ hu
  | profileRead => cases ht; exact answered_sound_of_link h readProfile_link
  | queueStatus => cases ht; exact answered_sound_of_link h fun _ _ => rfl
  | unknownRequest => cases ht; exact takeRequest_sound h fun _ _ hu => hu.1
  | profileClear => cases ht; exact answered_sound_of_link h clearSlot_link
  | profileSetGlobal => cases ht; exact answered_sound_of_link h setGlobal_link
  | profileSetChannel => cases ht; exact answered_sound_of_link h setChannel_link
  | profileCheck => cases ht; exact answered_sound_of_link h checkSlot_link
  | profileSelect => cases ht; exact answered_sound h fun r _ => selectProfile_keeps takesReply_keptByEvents r
  | arm => cases ht; exact answered_sound h fun r _ => carryArm_keeps takesReply_keptByEvents r
  | disarm => cases ht; exact answered_sound h fun _ _ => disarm_keeps takesReply_keptByEvents
  | abort => cases ht; exact answered_sound h fun _ _ => abortRun_keeps takesReply_keptByEvents
  | start => cases ht; exact answered_sound h fun _ _ => startEvent_keeps takesReply_keptByEvents .host
  | resultRead => cases ht; exact answered_sound_of_link h readResult_link
  | resultAck => cases ht; exact answered_sound h fun r _ => ackResults_keeps takesReply_keptByEvents r

/-! ### The arbiter (R142, R163) -/

theorem takeEventReport_sound {s t : State} (h : s.link.sound) (hroom : s.link.window.length < Config.windowCapacity)
    (ho : s.link.session.isOpen = true) (ht : takeEventReport s = some t) : t.link.sound := by
  unfold takeEventReport at ht
  split at ht
  · cases ht
  next e rest he =>
    cases ht
    refine beginReport_sound _ _ (l := { s.link with events := rest }) ?_ hroom ho
    obtain ⟨⟨hintake, hreplies, hcache, hwindow, hevents⟩, hdistinct, hslots, hattempts, htimers, hclosed⟩ := h
    rw [he, List.length_cons] at hevents
    refine ⟨⟨hintake, hreplies, hcache, hwindow, Nat.le_of_succ_le hevents⟩, hdistinct, hslots, hattempts, htimers,
      fun hs => ?_⟩
    exact absurd (he.symm.trans (hclosed hs).2) (List.cons_ne_nil _ _)

theorem takeRecordReport_sound {n : Nat} {s t : State} (h : s.link.sound)
    (hroom : s.link.window.length < Config.windowCapacity) (ho : s.link.session.isOpen = true)
    (ht : takeRecordReport n s = some t) : t.link.sound := by
  unfold takeRecordReport at ht
  split at ht
  · cases ht
  · cases ht
    exact beginReport_sound _ _ h hroom ho

theorem nextNewReport_sound {p : SessionParams} {s t : State} (h : s.link.sound) (ho : s.link.session.isOpen = true)
    (ht : nextNewReport p s = some t) : t.link.sound := by
  unfold nextNewReport at ht
  split at ht
  next hroom =>
    split at ht
    · cases ht
    · exact takeEventReport_sound h hroom ho ht
    · exact takeRecordReport_sound h hroom ho ht
    · split at ht
      · exact takeEventReport_sound h hroom ho ht
      · exact takeRecordReport_sound h hroom ho ht
  · cases ht

theorem nextReply_sound {s t : State} (h : s.link.sound) (ht : nextReply s = some t) : t.link.sound := by
  unfold nextReply at ht
  split at ht
  · cases ht
  next q rest hq =>
    cases ht
    obtain ⟨⟨hintake, hreplies, hcache, hwindow, hevents⟩, hrest⟩ := h
    rw [hq, List.length_cons] at hreplies
    exact ⟨⟨hintake, Nat.le_of_succ_le hreplies, hcache, hwindow, hevents⟩, hrest⟩

theorem nextReport_sound {s t : State} (h : s.link.sound) (ht : nextReport s = some t) : t.link.sound := by
  unfold nextReport at ht
  split at ht
  next p hs =>
    split at ht
    · cases ht
    · split at ht
      next u hu =>
        obtain rfl : u = t := Option.some.inj ht
        obtain ⟨w, -, rfl⟩ := Option.map_eq_some_iff.mp hu
        exact resend_sound w h
      · exact nextNewReport_sound h (by rw [hs]; rfl) ht
  · cases ht
  · cases ht

theorem arbiterChoice_sound {s t : State} (h : s.link.sound) (ht : arbiterChoice s = some t) : t.link.sound := by
  unfold arbiterChoice at ht
  split at ht
  · split at ht
    next u hu =>
      obtain rfl : u = t := Option.some.inj ht
      exact nextReply_sound h hu
    · exact nextReport_sound h ht
  · cases ht

/-! ### Steps -/

theorem takeInternal_keeps_linkSound {i : Internal} {s t : State} (h : s.link.sound) (ht : takeInternal i s = .next t) :
    t.link.sound := by
  cases i with
  | judge line => cases ht; exact h
  | receive e => cases ht; exact deliverEdge_keeps sound_keptByEvents e h
  | found c =>
    simp only [takeInternal, takeFound] at ht
    split at ht
    next u hu =>
      cases ht
      have hsound : u.link.sound := exec_keeps_linkSound
        (s := { s with sampled := { s.sampled with found := s.sampled.found.erase c } }) h hu
      exact hsound
    · cases ht
    · cases ht
  | due c => exact exec_keeps_linkSound h ht
  | readStats =>
    cases ht
    exact answered_sound h fun r _ => readStats_takesReply
      (clear := fun u => { u with link := { u.link with clearDue := true } }) (fun _ hs => hs) r
  | clearStats =>
    cases ht
    unfold finishStats
    split <;> exact h
  | choose =>
    cases ht
    cases hc : arbiterChoice s with
    | none => exact h
    | some u => exact arbiterChoice_sound h hc

theorem basePeriod_keeps_linkSound {s : State} (h : s.link.sound) : (basePeriod s).link.sound := by
  unfold basePeriod
  split
  · exact h
  · split
    · exact atReset_sound _ _ _
    · split
      · exact atReset_sound .pin s.pins.baud1 s.pins.baud0
      · exact tickLink_sound _ h

/-- Settles O58: no command, no event the part takes of its own accord and no base period makes the Host Link unsound. -/
theorem stepsKeepHostLinkSound : Obligations.StepsKeepHostLinkSound := by
  intro s t h ht
  unfold step at ht
  split at ht
  next c rest _ => exact exec_keeps_linkSound (s := { s with pending := rest }) h ht
  · unfold idle at ht
    split at ht
    · cases ht
      exact basePeriod_keeps_linkSound h
    · exact takeInternal_keeps_linkSound (s := { s with choices := s.choices + 1 }) h ht

end Sys2Proof.Machine
end
